-- ==== Sys2Proof/Word.lean ====
section
/-! DEFINITION. The words of the block: bytes and byte sequences (00_scope.md R11, R13). -/

namespace Sys2Proof

/-- `u8` of R11. -/
abbrev Byte := BitVec 8

/-- `Bytes` of R13: a finite sequence of bytes, byte 0 first. -/
abbrev Bytes := List Byte

/-- `u16` of R11. -/
abbrev U16 := BitVec 16

/-- `u32` of R11. -/
abbrev U32 := BitVec 32

/-- `UInt6` of R11, the width of a v2.0 payload type (R7). -/
abbrev UInt6 := BitVec 6

end Sys2Proof
end

