-- ==== Sys2Proof/Syntax.lean ====
section
/-! DEFINITION. What a host request is made of: the value records of 30_encoding.md section 5, the register types of
10_state.md section 3, the instructions (one constructor per row of opcode_table.json), and the request as the host
issues it (R90), before the decoder has looked at it. -/

namespace Sys2Proof

/-- `PROTO` (R26): the protocol generation of a context. -/
inductive Proto where
  | v15
  | v20
deriving DecidableEq, Repr, Inhabited

/-- `V20_STATE` (R31), in the order of the codes 0 to 7. -/
inductive V20State where
  | preSession
  | openSessionSent
  | openSessionReceived
  | rakp1Sent
  | rakp2Received
  | rakp3Sent
  | active
  | closeSent
deriving DecidableEq, Repr, Inhabited

/-- An opaque value of the collaborator's key type (R34): the block only stores it and passes it on, so a token that
tells one value from another is all a model needs (log entry 4, DESIGN CHOICE). -/
structure Key where
  token : Nat
deriving DecidableEq, Repr, Inhabited

/-- `H15` (R80), the raw v1.5 header value. -/
structure H15 where
  authType : Byte
  seq : U32
  sid : U32
  authCode : Option Bytes
  payloadLen : Byte
deriving DecidableEq, Repr, Inhabited

/-- The OEM fields of a v2.0 header (R81) and the `oem` operand of GEN20 and BUILD (R233). -/
structure Oem where
  iana : U32
  pid : U16
deriving DecidableEq, Repr, Inhabited

/-- `H20` (R81), the raw v2.0 header value. -/
structure H20 where
  authType : Byte
  enc : Bool
  auth : Bool
  pt : UInt6
  oem : Option Oem
  sid : U32
  seq : U32
  payloadLen : U16
deriving DecidableEq, Repr, Inhabited

/-- `TRL` (R82), the raw v2.0 trailer value. -/
structure Trl where
  pad : Bytes
  padLen : Byte
  nextHeader : Byte
  authCode : Bytes
deriving DecidableEq, Repr, Inhabited

/-- `S15` (R83), the raw v1.5 frame value. -/
structure S15 where
  hdr : H15
  payload : Bytes
deriving DecidableEq, Repr, Inhabited

/-- `S20` (R84), the raw v2.0 frame value. -/
structure S20 where
  hdr : H20
  payload : Bytes
  trailer : Option Trl
deriving DecidableEq, Repr, Inhabited

/-- The context register file (R24), which is also the record CTX_READ returns (R203).
A session-ID or sequence register and its written bit (R35) are one Option: `none` is "unwritten". -/
structure Context where
  live : Bool
  proto : Proto
  v15Active : Bool
  v15AuthType : Byte
  v15Sid : Option U32
  v15Seq : Option U32
  v20State : V20State
  v20Sid : Option U32
  v20Seq : Option U32
  v20Keys : Option Key
deriving DecidableEq, Repr, Inhabited

/-- A collaborator's answer (R40): `ok(v)` or `fail`. -/
inductive Answer (α : Type) where
  | ok (v : α)
  | fail
deriving DecidableEq, Repr, Inhabited

/-- One constructor per row of opcode_table.json: the 35 operations of R91, then the five wire formats of R70, R72
and R75, whose fields stand in the table's order. -/
inductive Instr where
  | putU8 (buf : Bytes) (off : Nat) (v : Byte)
  | putU16le (buf : Bytes) (off : Nat) (v : U16)
  | putU32le (buf : Bytes) (off : Nat) (v : U32)
  | putBytes (buf : Bytes) (off : Nat) (bs : Bytes)
  | getU8 (buf : Bytes) (off : Nat)
  | getU16le (buf : Bytes) (off : Nat)
  | getU32le (buf : Bytes) (off : Nat)
  | getBytes (buf : Bytes) (off n : Nat)
  | getBytesUpto (buf : Bytes) (off n : Nat)
  | h15Pack (h : H15)
  | h15Unpack (buf : Bytes)
  | h20Pack (h : H20)
  | h20Unpack (buf : Bytes)
  | padSize (l : Nat)
  | trlPack (t : Trl)
  | trlUnpack (buf : Bytes) (off : Nat) (p : Nat)
  | s15Pack (f : S15)
  | s15Unpack (buf : Bytes)
  | s20Pack (f : S20)
  | s20Unpack (buf : Bytes)
  | ctxCreate (proto : Proto)
  | ctxDestroy
  | ctxRead
  | ctxSetV15 (active : Bool) (authType : Byte)
  | ctxSetV15Sid (v : U32)
  | ctxSetV15Seq (v : U32)
  | ctxSetV20Sid (v : U32)
  | ctxSetV20Seq (v : U32)
  | ctxSetV20Keys (k : Key)
  | smAdvance (target : V20State)
  | smReset
  | gen15 (raw : Bytes)
  | gen20 (raw : Bytes) (pt : UInt6) (oem : Option Oem)
  | build (raw : Bytes) (pt : UInt6) (oem : Option Oem)
  | parse (frame : Bytes)
  | wireW15n (seq sid : U32) (payloadLen : Byte)
  | wireW15a (authType : Byte) (seq sid : U32) (authCode : Bytes) (payloadLen : Byte)
  | wireW20 (authType : Byte) (enc auth : Bool) (pt : UInt6) (sid seq : U32) (payloadLen : U16)
  | wireW20o (authType : Byte) (enc auth : Bool) (iana : U32) (pid : U16) (sid seq : U32) (payloadLen : U16)
  | wireWtrl (pad : Bytes) (padLen nextHeader : Byte) (authCode : Bytes)
deriving DecidableEq, Repr

/-! ### Requests as the host issues them

An operand of a request is untyped: every integer, flag, state code and key token is a `Nat`, so that an operand
outside its type (R272) can be written down and refused (log entry 10, DESIGN CHOICE). -/

structure RawH15 where
  authType : Nat
  seq : Nat
  sid : Nat
  authCode : Option Bytes
  payloadLen : Nat
deriving DecidableEq, Repr

structure RawOem where
  iana : Nat
  pid : Nat
deriving DecidableEq, Repr

structure RawH20 where
  authType : Nat
  enc : Nat
  auth : Nat
  pt : Nat
  oem : Option RawOem
  sid : Nat
  seq : Nat
  payloadLen : Nat
deriving DecidableEq, Repr

structure RawTrl where
  pad : Bytes
  padLen : Nat
  nextHeader : Nat
  authCode : Bytes
deriving DecidableEq, Repr

structure RawS15 where
  hdr : RawH15
  payload : Bytes
deriving DecidableEq, Repr

structure RawS20 where
  hdr : RawH20
  payload : Bytes
  trailer : Option RawTrl
deriving DecidableEq, Repr

/-- One operand of a request (R90). -/
inductive Operand where
  | num (n : Nat)
  | bytes (b : Bytes)
  | oem (o : Option RawOem)
  | h15 (h : RawH15)
  | h20 (h : RawH20)
  | trl (t : RawTrl)
  | s15 (f : RawS15)
  | s20 (f : RawS20)
deriving DecidableEq, Repr

/-- What the host puts before the block: a request of format OP (R90), or bytes of a wire format, whose generation the
host knows and the bytes do not tell (R239, log entry 7, DESIGN CHOICE); a trailer comes with its pad count, which is
computed outside it (R165). -/
inductive Request where
  | op (tag : Byte) (operands : List Operand)
  | header15 (buf : Bytes)
  | header20 (buf : Bytes)
  | trailer (p : Nat) (buf : Bytes)
deriving DecidableEq, Repr

end Sys2Proof
end

