-- ==== Sys2Proof/Config.lean ====
section
/-! DEFINITION. What an implementation fixes (PT_OEM, 00_scope.md R8) and the free values: what the spec leaves to be
drawn. -/

namespace Sys2Proof

/-- The parameters of one block. `ptOem` is the payload-type value that means "OEM" (R8); no rule reads a literal in
its place. -/
structure Config where
  ptOem : UInt6
deriving DecidableEq, Repr

/-- The spec's default, PT_OEM = 0x02 (R8, D3; log entry 1). -/
def Config.default : Config := ⟨0x02#6⟩

/-- FREE VALUE (R40, log entry 2): AC's answer to the n-th draw. -/
opaque Config.acDraw : Nat → Answer Bytes

/-- FREE VALUE (R40, log entry 2): ENC's answer to the n-th draw. -/
opaque Config.encDraw : Nat → Answer Bytes

/-- FREE VALUE (R40, log entry 2): TRLGEN's answer to the n-th draw. -/
opaque Config.trlgenDraw : Nat → Answer Trl

/-- FREE VALUE (R202, R291, log entry 6): what the registers hold once CTX_DESTROY has lost their values. -/
opaque Config.lostRegisters : Nat → Context

end Sys2Proof
end

