-- ==== Sys2Proof/Machine/Outcomes.lean ====
section
/-! DEFINITION. What one operation ends with (10_state.md R21, 60_exceptions.md R260 to R272): outputs, errors, refusals,
and the trace of collaborator calls (R41). -/

namespace Sys2Proof.Machine

/-- The context tag of a BufferTooShort (R260, R261). -/
inductive Tag where
  | codec
  | header
  | payload
  | trailer
deriving DecidableEq, Repr

/-- The three collaborator ports (R20 (c)). -/
inductive Port where
  | ac
  | enc
  | trlgen
deriving DecidableEq, Repr

/-- Why a collaborator call failed (R262). -/
inductive FailureKind where
  | failed
  | badResult
deriving DecidableEq, Repr

/-- The two payload-length limits (R265): 255 for v1.5, 65535 for v2.0. -/
inductive LengthLimit where
  | limit255
  | limit65535
deriving DecidableEq, Repr

/-- What an IllegalTransition reports (R267). -/
inductive Transition where
  | v20State (current target : V20State)
  | v15AuthTypeFixed
deriving DecidableEq, Repr

/-- The registers an UnwrittenContext can name (R264). -/
inductive SessionReg where
  | v15Sid
  | v15Seq
  | v20Sid
  | v20Seq
deriving DecidableEq, Repr

/-- The error kinds of R260, each with its info. -/
inductive Error where
  | bufferTooShort (tag : Tag)
  | collaboratorFailure (port : Port) (why : FailureKind)
  | payloadTooLong (limit : LengthLimit)
  | illegalTransition (t : Transition)
  | unwrittenContext (reg : SessionReg)
  | noContext
deriving DecidableEq, Repr

/-- The named checks of R80 to R84. -/
inductive Check where
  | h15AuthcodePresence
  | h15AuthcodeLen
  | h20AuthTypeFixed
  | h20OemPresence
  | h20IanaReserved
  | trlPadCount
  | trlPadValue
  | trlPadLen
  | trlNextHeader
  | trlAuthcodeMax
  | s15Len
  | s20Len
  | s20TrailerPresence
  | s20Trailer
  | s20PadAlign
deriving DecidableEq, Repr

/-- The operands an OperandRange can name (R272); `operands` is the operand list itself (log entry 9). -/
inductive OperandName where
  | operands
  | v
  | p
  | pt
  | proto
  | target
  | active
  | authType
  | seq
  | sid
  | payloadLen
  | enc
  | auth
  | iana
  | pid
  | padLen
  | nextHeader
deriving DecidableEq, Repr

/-- The shapes an OperandShape can name (R233, R272). -/
inductive ShapeName where
  | oem
  | iana
deriving DecidableEq, Repr

/-- The reasons of a refusal (R271, R272). -/
inductive Reason where
  | illFormed (c : Check)
  | reservedOp (tag : Byte)
  | operandRange (name : OperandName)
  | operandShape (name : ShapeName)
deriving DecidableEq, Repr

/-- Why the decoder gives no instruction: the request is refused (R272), or the bytes of a wire format are too few for
the format they select (R88, R261). -/
inductive Reject where
  | refuse (r : Reason)
  | raise (e : Error)
deriving DecidableEq, Repr

/-- One collaborator call of a trace (R41): port, arguments, answer. -/
inductive Event where
  | ac (payload : Bytes) (answer : Answer Bytes)
  | enc (payload : Bytes) (keys : Option Key) (answer : Answer Bytes)
  | trlgen (header payload : Bytes) (answer : Answer Trl)
deriving DecidableEq, Repr

/-- The outputs of the operations, one form per output type of families 40 to 46. -/
inductive Output where
  | unit
  | bufAt (buf : Bytes) (next : Nat)
  | u8At (v : Byte) (next : Nat)
  | u16At (v : U16) (next : Nat)
  | u32At (v : U32) (next : Nat)
  | bytes (b : Bytes)
  | nat (n : Nat)
  | h15 (h : H15) (hsize : Nat)
  | h20 (h : H20) (hsize : Nat)
  | trl (t : Trl) (next : Nat)
  | s15 (f : S15)
  | s20 (f : S20)
  | context (c : Context)
  | parsed15 (payload : Bytes) (f : S15)
  | parsed20 (payload : Bytes) (f : S20)
deriving DecidableEq, Repr

/-- The outcome of one operation (R21), less the context, which is in the state. -/
inductive Ended where
  | ok (out : Output)
  | err (e : Error)
  | refused (r : Reason)
deriving DecidableEq, Repr

/-- What the host receives when an operation ends (R21, R41). -/
structure Report where
  ended : Ended
  trace : List Event
deriving DecidableEq, Repr

end Sys2Proof.Machine
end

