-- ==== Sys2Proof/Machine/Fields.lean ====
section
/-! DEFINITION. Byte sequences and their fields: little-endian integers (00_scope.md R13, 20_memory.md R52), the numeric
codes of the spec, and the sizes and pad counts of the wire formats. -/

namespace Sys2Proof.Machine

/-- `AUTH_NONE` (R7). -/
def authNone : Byte := 0x00#8

/-- `AUTH_RMCPP` (R7), byte 0 of every packed v2.0 header. -/
def authRmcpp : Byte := 0x06#8

/-- `NEXT_HEADER` (R7). -/
def nextHeaderByte : Byte := 0x07#8

/-- `PAD_BYTE` (R7). -/
def padByte : Byte := 0xFF#8

/-- `H15_AUTHCODE_LEN` (R7). -/
def h15AuthCodeLen : Nat := 16

/-- `TRL_AUTHCODE_MAX` (R7). -/
def trlAuthCodeMax : Nat := 16

/-- `le16` (R13). -/
def le16 (v : U16) : Bytes := [v.extractLsb' 0 8, v.extractLsb' 8 8]

/-- `le32` (R13). -/
def le32 (v : U32) : Bytes := [v.extractLsb' 0 8, v.extractLsb' 8 8, v.extractLsb' 16 8, v.extractLsb' 24 8]

/-- `unle` (R13): the unsigned value whose little-endian bytes are the list. -/
def unle : Bytes → Nat
  | [] => 0
  | b :: bs => b.toNat + 256 * unle bs

/-- The `n` low bytes of a number, least significant first; lays a table word out (log entry 11). -/
def bytesOfNat : Nat → Nat → Bytes
  | 0, _ => []
  | n + 1, x => BitVec.ofNat 8 x :: bytesOfNat n (x / 256)

/-- The `PROTO` codes (R26). -/
def protoCode : Proto → Nat
  | .v15 => 0
  | .v20 => 1

/-- The `V20_STATE` codes (R31). -/
def stateCode : V20State → Nat
  | .preSession => 0
  | .openSessionSent => 1
  | .openSessionReceived => 2
  | .rakp1Sent => 3
  | .rakp2Received => 4
  | .rakp3Sent => 5
  | .active => 6
  | .closeSent => 7

/-- The error codes (R260). -/
def Error.code : Error → Byte
  | .bufferTooShort _ => 1#8
  | .collaboratorFailure _ _ => 2#8
  | .payloadTooLong _ => 3#8
  | .illegalTransition _ => 4#8
  | .unwrittenContext _ => 5#8
  | .noContext => 6#8

/-- The number a limit stands for (R265). -/
def LengthLimit.value : LengthLimit → Nat
  | .limit255 => 255
  | .limit65535 => 65535

/-- `PadSize` (R160). -/
def padSize (l : Nat) : Nat := (4 - l % 4) % 4

/-- `hsize15` (R80). -/
def hsize15 (h : H15) : Nat := if h.authType = authNone then 10 else 26

/-- `hsize20` (R81). -/
def hsize20 (cfg : Config) (h : H20) : Nat := if h.pt = cfg.ptOem then 18 else 12

/-- `tsize` (R82). -/
def tsize (t : Trl) : Nat := t.pad.length + 2 + t.authCode.length

end Sys2Proof.Machine
end

