-- ==== Sys2Proof/Machine/Flags.lean ====
section
/-! DEFINITION. The block has no status flags (10_state.md R36); the flags it handles are the two bits of byte 1 of a
v2.0 header (30_encoding.md R73). -/

namespace Sys2Proof.Machine

/-- Byte 1 on pack (R73): `(enc << 7) | (auth << 6) | pt`. -/
def flagsByte (enc auth : Bool) (pt : UInt6) : Byte :=
  ((BitVec.ofBool enc).setWidth 8 <<< 7) ||| ((BitVec.ofBool auth).setWidth 8 <<< 6) ||| pt.setWidth 8

/-- The encrypted flag, bit 7 of byte 1 (R73). -/
def encFlag (b1 : Byte) : Bool := b1.getLsbD 7

/-- The authenticated flag, bit 6 of byte 1 (R73). -/
def authFlag (b1 : Byte) : Bool := b1.getLsbD 6

/-- The payload type, bits 5:0 of byte 1 (R73). -/
def payloadTypeOf (b1 : Byte) : UInt6 := b1.extractLsb' 0 6

/-- Whether a v2.0 header announces a trailer (R76); the encrypted flag plays no part. -/
def trailerExpected (h : H20) : Bool := h.auth && h.sid ≠ 0#32

end Sys2Proof.Machine
end

