-- ==== Sys2Proof/Machine/Buffer.lean ====
section
/-! DEFINITION. Access to byte buffers: the primitives MemRead and MemWrite (00_scope.md R14, 20_memory.md R57) and the
typed accesses every higher rule makes through the codec (40_codec.md R100). A read or write that does not fit raises
BufferTooShort with the tag of the calling rule and touches nothing. -/

namespace Sys2Proof.Machine

/-- `MemRead(addr, n)` (R14). -/
def memRead (tag : Tag) (buf : Bytes) (addr n : Nat) : Except Error Bytes :=
  if addr + n ≤ buf.length then .ok ((buf.drop addr).take n) else .error (.bufferTooShort tag)

/-- `MemWrite(addr, len v, v)` into a copy of the buffer (R14, R50). -/
def memWrite (tag : Tag) (buf : Bytes) (addr : Nat) (v : Bytes) : Except Error Bytes :=
  if addr + v.length ≤ buf.length then .ok (buf.take addr ++ v ++ buf.drop (addr + v.length))
  else .error (.bufferTooShort tag)

/-- A byte read (R105). -/
def readU8 (tag : Tag) (buf : Bytes) (off : Nat) : Except Error Byte :=
  (memRead tag buf off 1).map fun b => BitVec.ofNat 8 (unle b)

/-- A 16-bit little-endian read (R106). -/
def readU16 (tag : Tag) (buf : Bytes) (off : Nat) : Except Error U16 :=
  (memRead tag buf off 2).map fun b => BitVec.ofNat 16 (unle b)

/-- A 32-bit little-endian read (R107). -/
def readU32 (tag : Tag) (buf : Bytes) (off : Nat) : Except Error U32 :=
  (memRead tag buf off 4).map fun b => BitVec.ofNat 32 (unle b)

/-- The tolerant read (R109): at most `n` bytes, and the offset after them. -/
def readUpto (tag : Tag) (buf : Bytes) (off n : Nat) : Except Error (Bytes × Nat) :=
  if off > buf.length then .error (.bufferTooShort tag)
  else
    let k := min n (buf.length - off)
    (memRead tag buf off k).map fun b => (b, off + k)

/-- A byte write (R101). -/
def writeU8 (tag : Tag) (buf : Bytes) (off : Nat) (v : Byte) : Except Error Bytes := memWrite tag buf off [v]

/-- A 16-bit little-endian write (R102). -/
def writeU16 (tag : Tag) (buf : Bytes) (off : Nat) (v : U16) : Except Error Bytes := memWrite tag buf off (le16 v)

/-- A 32-bit little-endian write (R103). -/
def writeU32 (tag : Tag) (buf : Bytes) (off : Nat) (v : U32) : Except Error Bytes := memWrite tag buf off (le32 v)

end Sys2Proof.Machine
end

