-- ==== Sys2Proof/Machine/Operands.lean ====
section
/-! DEFINITION. The operand forms that carry conditions: the named checks of the value records (30_encoding.md R80 to
R84), each list in the order its rule gives, and the shape of the `oem` operand (46_generator.md R233). -/

namespace Sys2Proof.Machine

/-- The first check of a list that does not hold (R271). -/
def firstBroken : List (Check × Bool) → Option Check
  | [] => none
  | (c, holds) :: rest => if holds then firstBroken rest else some c

/-- The checks of R80. -/
def checksH15 (h : H15) : List (Check × Bool) :=
  [(.h15AuthcodePresence, h.authCode.isNone == (h.authType == authNone)),
   (.h15AuthcodeLen, h.authCode.all fun c => c.length == h15AuthCodeLen)]

/-- The checks of R81. -/
def checksH20 (cfg : Config) (h : H20) : List (Check × Bool) :=
  [(.h20AuthTypeFixed, h.authType == authRmcpp),
   (.h20OemPresence, h.oem.isSome == (h.pt == cfg.ptOem)),
   (.h20IanaReserved, h.oem.all fun o => o.iana.extractLsb' 24 8 == 0#8)]

/-- The checks of R82. -/
def checksTrl (t : Trl) : List (Check × Bool) :=
  [(.trlPadCount, decide (t.pad.length ≤ 3)),
   (.trlPadValue, t.pad.all fun b => b == padByte),
   (.trlPadLen, t.padLen.toNat == t.pad.length),
   (.trlNextHeader, t.nextHeader == nextHeaderByte),
   (.trlAuthcodeMax, decide (t.authCode.length ≤ trlAuthCodeMax))]

/-- The checks of R83. -/
def checksS15 (f : S15) : List (Check × Bool) :=
  checksH15 f.hdr ++ [(.s15Len, f.hdr.payloadLen.toNat == f.payload.length)]

/-- No check of R82 is broken. -/
def trailerHolds (t : Trl) : Bool := (firstBroken (checksTrl t)).isNone

/-- The checks of R84: the header's under their own names, the trailer's all under the one name `S20.trailer`. -/
def checksS20 (cfg : Config) (f : S20) : List (Check × Bool) :=
  checksH20 cfg f.hdr ++
  [(.s20Len, f.hdr.payloadLen.toNat == f.payload.length),
   (.s20TrailerPresence, f.trailer.isSome == trailerExpected f.hdr),
   (.s20Trailer, f.trailer.all trailerHolds),
   (.s20PadAlign, f.trailer.all fun t => t.pad.length == padSize (hsize20 cfg f.hdr + f.payload.length))]

/-- The shape of GEN20's `oem` operand (R233): its presence first, then the top byte of its IANA. -/
def oemShape (cfg : Config) (pt : UInt6) (oem : Option Oem) : Option ShapeName :=
  if oem.isSome ≠ (pt == cfg.ptOem) then some .oem
  else if oem.all fun o => o.iana.extractLsb' 24 8 == 0#8 then none
  else some .iana

end Sys2Proof.Machine
end

