-- ==== Sys2Proof/Machine/Wire.lean ====
section
/-! DEFINITION. The wire formats (30_encoding.md sections 1 to 4): the bytes of a header, trailer or frame, and the
reading of one, each in the pseudocode's own order (41_header15.md to 44_frame.md). -/

namespace Sys2Proof.Machine

/-- The bytes of a v1.5 header, W15N or W15A (R70, R120). -/
def header15Bytes (h : H15) : Bytes :=
  [h.authType] ++ le32 h.seq ++ le32 h.sid ++ h.authCode.getD [] ++ [h.payloadLen]

/-- The OEM fields of a v2.0 header (R72): IANA at offset 2, payload ID at offset 6. -/
def oemBytes : Option Oem → Bytes
  | none => []
  | some o => le32 o.iana ++ le16 o.pid

/-- The bytes of a v2.0 header, W20 or W20O (R72, R140). Under the checks of R81, byte 0 is AUTH_RMCPP and the OEM fields
are there exactly when the payload type is PT_OEM, as R140 writes them. -/
def header20Bytes (h : H20) : Bytes :=
  [h.authType, flagsByte h.enc h.auth h.pt] ++ oemBytes h.oem ++ le32 h.sid ++ le32 h.seq ++ le16 h.payloadLen

/-- The bytes of a trailer (R75, R164). -/
def trailerBytes (t : Trl) : Bytes := t.pad ++ [t.padLen] ++ [t.nextHeader] ++ t.authCode

/-- The bytes of a v1.5 frame (R77, R180). -/
def frame15Bytes (f : S15) : Bytes := header15Bytes f.hdr ++ f.payload

/-- The trailer bytes that end a v2.0 frame, if it has one (R78). -/
def trailerPart : Option Trl → Bytes
  | none => []
  | some t => trailerBytes t

/-- The bytes of a v2.0 frame (R78, R182). -/
def frame20Bytes (f : S20) : Bytes := header20Bytes f.hdr ++ f.payload ++ trailerPart f.trailer

/-- The part of a v1.5 header after its session ID: auth code, payload length and header size (R121). -/
def readHeader15Rest (buf : Bytes) (authType : Byte) : Except Error (Option Bytes × Byte × Nat) :=
  if authType ≠ authNone then
    if buf.length < 26 then .error (.bufferTooShort .header)
    else do
      let code ← memRead .header buf 9 16
      let len ← readU8 .header buf 25
      .ok (some code, len, 26)
  else do
    let len ← readU8 .header buf 9
    .ok (none, len, 10)

/-- H15_UNPACK's reading (R121): the header and the offset after it. -/
def readHeader15 (buf : Bytes) : Except Error (H15 × Nat) :=
  if buf.length < 10 then .error (.bufferTooShort .header)
  else do
    let authType ← readU8 .header buf 0
    let seq ← readU32 .header buf 1
    let sid ← readU32 .header buf 5
    let (code, len, size) ← readHeader15Rest buf authType
    .ok ({ authType := authType, seq := seq, sid := sid, authCode := code, payloadLen := len }, size)

/-- The OEM fields and the base of the fields after them (R141). -/
def readOem (cfg : Config) (buf : Bytes) (pt : UInt6) : Except Error (Option Oem × Nat) :=
  if pt = cfg.ptOem then
    if buf.length < 18 then .error (.bufferTooShort .header)
    else do
      let iana ← readU32 .header buf 2
      let pid ← readU16 .header buf 6
      .ok (some { iana := iana, pid := pid }, 8)
  else
    if buf.length < 12 then .error (.bufferTooShort .header)
    else .ok (none, 2)

/-- H20_UNPACK's reading (R141): the header and the offset after it. -/
def readHeader20 (cfg : Config) (buf : Bytes) : Except Error (H20 × Nat) := do
  let authType ← readU8 .header buf 0
  let b1 ← readU8 .header buf 1
  let (oem, base) ← readOem cfg buf (payloadTypeOf b1)
  let sid ← readU32 .header buf base
  let seq ← readU32 .header buf (base + 4)
  let len ← readU16 .header buf (base + 8)
  .ok ({ authType := authType, enc := encFlag b1, auth := authFlag b1, pt := payloadTypeOf b1, oem := oem,
         sid := sid, seq := seq, payloadLen := len }, base + 10)

/-- TRL_UNPACK's reading (R166): strict but for the auth code (R167). -/
def readTrailer (buf : Bytes) (off p : Nat) : Except Error (Trl × Nat) := do
  let pad ← memRead .trailer buf off p
  let padLen ← readU8 .trailer buf (off + p)
  let nextHeader ← readU8 .trailer buf (off + p + 1)
  let (code, next) ← readUpto .trailer buf (off + p + 2) trlAuthCodeMax
  .ok ({ pad := pad, padLen := padLen, nextHeader := nextHeader, authCode := code }, next)

/-- S15_UNPACK's reading (R181). -/
def readFrame15 (buf : Bytes) : Except Error S15 := do
  let (h, size) ← readHeader15 buf
  let payload ← memRead .payload buf size h.payloadLen.toNat
  .ok { hdr := h, payload := payload }

/-- The trailer of an inbound v2.0 frame, if its header announces one (R183). -/
def readFrameTrailer (buf : Bytes) (h : H20) (off : Nat) : Except Error (Option Trl) :=
  if trailerExpected h then (readTrailer buf off (padSize off)).map fun r => some r.1
  else .ok none

/-- S20_UNPACK's reading (R183). -/
def readFrame20 (cfg : Config) (buf : Bytes) : Except Error S20 := do
  let (h, size) ← readHeader20 cfg buf
  let payload ← memRead .payload buf size h.payloadLen.toNat
  let trailer ← readFrameTrailer buf h (size + h.payloadLen.toNat)
  .ok { hdr := h, payload := payload, trailer := trailer }

end Sys2Proof.Machine
end

