-- ==== Sys2Proof/WellFormed.lean ====
section
/-! DEFINITION. Well-formed instructions: the operands a request of R90 can carry after its type check (R272), and for a
wire format the values its discriminating bytes admit (30_encoding.md R71, R74, R75).
The named checks of R80 to R84 are not part of it: a pack operand that breaks one is a legal request, refused when it is
executed (R271). -/

namespace Sys2Proof

/-- The checks, by constructor. -/
def Instr.wf (cfg : Config) : Instr → Bool
  | .putU8 .. | .putU16le .. | .putU32le .. | .putBytes .. => true
  | .getU8 .. | .getU16le .. | .getU32le .. | .getBytes .. | .getBytesUpto .. => true
  | .h15Pack _ | .h15Unpack _ | .h20Pack _ | .h20Unpack _ => true
  | .padSize _ | .trlPack _ => true
  | .trlUnpack _ _ p => p ≤ 3
  | .s15Pack _ | .s15Unpack _ | .s20Pack _ | .s20Unpack _ => true
  | .ctxCreate _ | .ctxDestroy | .ctxRead => true
  | .ctxSetV15 .. | .ctxSetV15Sid _ | .ctxSetV15Seq _ => true
  | .ctxSetV20Sid _ | .ctxSetV20Seq _ | .ctxSetV20Keys _ => true
  | .smAdvance _ | .smReset => true
  | .gen15 _ | .gen20 .. | .build .. | .parse _ => true
  | .wireW15n .. => true
  | .wireW15a authType _ _ authCode _ => authType ≠ 0x00#8 && authCode.length = 16
  | .wireW20 _ _ _ pt _ _ _ => pt ≠ cfg.ptOem
  | .wireW20o .. => true
  | .wireWtrl pad _ _ authCode => pad.length ≤ 3 && authCode.length ≤ 16

end Sys2Proof
end

