-- ==== Sys2Proof/Decode.lean ====
section
/-! DEFINITION. The decoder, total on every request and rejecting by name (30_encoding.md R90 to R93, 60_exceptions.md
R272), and after it the encoder. -/

namespace Sys2Proof

open Sys2Proof.Machine

/-! ### Operands: a number into its type, or OperandRange -/

/-- An unsigned field of `w` bits (R11, R272). -/
def asField (w : Nat) (name : OperandName) (n : Nat) : Except Reject (BitVec w) :=
  if n < 2 ^ w then .ok (BitVec.ofNat w n) else .error (.refuse (.operandRange name))

/-- A Bool, 0 or 1 (R11). -/
def asBool (name : OperandName) : Nat → Except Reject Bool
  | 0 => .ok false
  | 1 => .ok true
  | _ => .error (.refuse (.operandRange name))

/-- The code of a Bool (R11). -/
def boolCode : Bool → Nat
  | false => 0
  | true => 1

/-- A PROTO code (R26, R272). -/
def asProto : Nat → Except Reject Proto
  | 0 => .ok .v15
  | 1 => .ok .v20
  | _ => .error (.refuse (.operandRange .proto))

/-- A state code (R31, R272). -/
def asState : Nat → Except Reject V20State
  | 0 => .ok .preSession
  | 1 => .ok .openSessionSent
  | 2 => .ok .openSessionReceived
  | 3 => .ok .rakp1Sent
  | 4 => .ok .rakp2Received
  | 5 => .ok .rakp3Sent
  | 6 => .ok .active
  | 7 => .ok .closeSent
  | _ => .error (.refuse (.operandRange .target))

/-- A pad count of TRL_UNPACK (R166). -/
def asPadCount (n : Nat) : Except Reject Nat :=
  if n ≤ 3 then .ok n else .error (.refuse (.operandRange .p))

/-- An H15 record (R80). -/
def asH15 (r : RawH15) : Except Reject H15 := do
  let authType ← asField 8 .authType r.authType
  let seq ← asField 32 .seq r.seq
  let sid ← asField 32 .sid r.sid
  let payloadLen ← asField 8 .payloadLen r.payloadLen
  .ok { authType := authType, seq := seq, sid := sid, authCode := r.authCode, payloadLen := payloadLen }

/-- An optional OEM record (R81, R233). -/
def asOem : Option RawOem → Except Reject (Option Oem)
  | none => .ok none
  | some r => do
    let iana ← asField 32 .iana r.iana
    let pid ← asField 16 .pid r.pid
    .ok (some { iana := iana, pid := pid })

/-- An H20 record (R81). -/
def asH20 (r : RawH20) : Except Reject H20 := do
  let authType ← asField 8 .authType r.authType
  let enc ← asBool .enc r.enc
  let auth ← asBool .auth r.auth
  let pt ← asField 6 .pt r.pt
  let oem ← asOem r.oem
  let sid ← asField 32 .sid r.sid
  let seq ← asField 32 .seq r.seq
  let payloadLen ← asField 16 .payloadLen r.payloadLen
  .ok { authType := authType, enc := enc, auth := auth, pt := pt, oem := oem, sid := sid, seq := seq,
        payloadLen := payloadLen }

/-- A TRL record (R82). -/
def asTrl (r : RawTrl) : Except Reject Trl := do
  let padLen ← asField 8 .padLen r.padLen
  let nextHeader ← asField 8 .nextHeader r.nextHeader
  .ok { pad := r.pad, padLen := padLen, nextHeader := nextHeader, authCode := r.authCode }

/-- An optional TRL record (R84). -/
def asTrailer : Option RawTrl → Except Reject (Option Trl)
  | none => .ok none
  | some r => (asTrl r).map some

/-- An S15 record (R83). -/
def asS15 (r : RawS15) : Except Reject S15 := do
  let hdr ← asH15 r.hdr
  .ok { hdr := hdr, payload := r.payload }

/-- An S20 record (R84). -/
def asS20 (r : RawS20) : Except Reject S20 := do
  let hdr ← asH20 r.hdr
  let trailer ← asTrailer r.trailer
  .ok { hdr := hdr, payload := r.payload, trailer := trailer }

/-! ### One operand list per operation -/

/-- An operand list of the wrong length or kinds (R272, log entry 9). -/
def wrongOperands : Except Reject Instr := .error (.refuse (.operandRange .operands))

def decPutU8 : List Operand → Except Reject Instr
  | [.bytes buf, .num off, .num v] => (asField 8 .v v).map (.putU8 buf off)
  | _ => wrongOperands

def decPutU16le : List Operand → Except Reject Instr
  | [.bytes buf, .num off, .num v] => (asField 16 .v v).map (.putU16le buf off)
  | _ => wrongOperands

def decPutU32le : List Operand → Except Reject Instr
  | [.bytes buf, .num off, .num v] => (asField 32 .v v).map (.putU32le buf off)
  | _ => wrongOperands

def decPutBytes : List Operand → Except Reject Instr
  | [.bytes buf, .num off, .bytes bs] => .ok (.putBytes buf off bs)
  | _ => wrongOperands

def decGetU8 : List Operand → Except Reject Instr
  | [.bytes buf, .num off] => .ok (.getU8 buf off)
  | _ => wrongOperands

def decGetU16le : List Operand → Except Reject Instr
  | [.bytes buf, .num off] => .ok (.getU16le buf off)
  | _ => wrongOperands

def decGetU32le : List Operand → Except Reject Instr
  | [.bytes buf, .num off] => .ok (.getU32le buf off)
  | _ => wrongOperands

def decGetBytes : List Operand → Except Reject Instr
  | [.bytes buf, .num off, .num n] => .ok (.getBytes buf off n)
  | _ => wrongOperands

def decGetBytesUpto : List Operand → Except Reject Instr
  | [.bytes buf, .num off, .num n] => .ok (.getBytesUpto buf off n)
  | _ => wrongOperands

def decH15Pack : List Operand → Except Reject Instr
  | [.h15 h] => (asH15 h).map .h15Pack
  | _ => wrongOperands

def decH15Unpack : List Operand → Except Reject Instr
  | [.bytes buf] => .ok (.h15Unpack buf)
  | _ => wrongOperands

def decH20Pack : List Operand → Except Reject Instr
  | [.h20 h] => (asH20 h).map .h20Pack
  | _ => wrongOperands

def decH20Unpack : List Operand → Except Reject Instr
  | [.bytes buf] => .ok (.h20Unpack buf)
  | _ => wrongOperands

def decPadSize : List Operand → Except Reject Instr
  | [.num l] => .ok (.padSize l)
  | _ => wrongOperands

def decTrlPack : List Operand → Except Reject Instr
  | [.trl t] => (asTrl t).map .trlPack
  | _ => wrongOperands

def decTrlUnpack : List Operand → Except Reject Instr
  | [.bytes buf, .num off, .num p] => (asPadCount p).map (.trlUnpack buf off)
  | _ => wrongOperands

def decS15Pack : List Operand → Except Reject Instr
  | [.s15 f] => (asS15 f).map .s15Pack
  | _ => wrongOperands

def decS15Unpack : List Operand → Except Reject Instr
  | [.bytes buf] => .ok (.s15Unpack buf)
  | _ => wrongOperands

def decS20Pack : List Operand → Except Reject Instr
  | [.s20 f] => (asS20 f).map .s20Pack
  | _ => wrongOperands

def decS20Unpack : List Operand → Except Reject Instr
  | [.bytes buf] => .ok (.s20Unpack buf)
  | _ => wrongOperands

def decCtxCreate : List Operand → Except Reject Instr
  | [.num proto] => (asProto proto).map .ctxCreate
  | _ => wrongOperands

def decCtxDestroy : List Operand → Except Reject Instr
  | [] => .ok .ctxDestroy
  | _ => wrongOperands

def decCtxRead : List Operand → Except Reject Instr
  | [] => .ok .ctxRead
  | _ => wrongOperands

def decCtxSetV15 : List Operand → Except Reject Instr
  | [.num active, .num authType] => do
    let a ← asBool .active active
    let t ← asField 8 .authType authType
    .ok (.ctxSetV15 a t)
  | _ => wrongOperands

def decCtxSetV15Sid : List Operand → Except Reject Instr
  | [.num v] => (asField 32 .v v).map .ctxSetV15Sid
  | _ => wrongOperands

def decCtxSetV15Seq : List Operand → Except Reject Instr
  | [.num v] => (asField 32 .v v).map .ctxSetV15Seq
  | _ => wrongOperands

def decCtxSetV20Sid : List Operand → Except Reject Instr
  | [.num v] => (asField 32 .v v).map .ctxSetV20Sid
  | _ => wrongOperands

def decCtxSetV20Seq : List Operand → Except Reject Instr
  | [.num v] => (asField 32 .v v).map .ctxSetV20Seq
  | _ => wrongOperands

def decCtxSetV20Keys : List Operand → Except Reject Instr
  | [.num k] => .ok (.ctxSetV20Keys ⟨k⟩)
  | _ => wrongOperands

def decSmAdvance : List Operand → Except Reject Instr
  | [.num target] => (asState target).map .smAdvance
  | _ => wrongOperands

def decSmReset : List Operand → Except Reject Instr
  | [] => .ok .smReset
  | _ => wrongOperands

def decGen15 : List Operand → Except Reject Instr
  | [.bytes raw] => .ok (.gen15 raw)
  | _ => wrongOperands

def decGen20 : List Operand → Except Reject Instr
  | [.bytes raw, .num pt, .oem oem] => do
    let t ← asField 6 .pt pt
    let o ← asOem oem
    .ok (.gen20 raw t o)
  | _ => wrongOperands

def decBuild : List Operand → Except Reject Instr
  | [.bytes raw, .num pt, .oem oem] => do
    let t ← asField 6 .pt pt
    let o ← asOem oem
    .ok (.build raw t o)
  | _ => wrongOperands

def decParse : List Operand → Except Reject Instr
  | [.bytes frame] => .ok (.parse frame)
  | _ => wrongOperands

/-- The opcode map (R91); every other tag is reserved (R92). -/
def decodeOp (tag : Byte) (ops : List Operand) : Except Reject Instr :=
  match tag.toNat with
  | 0x01 => decPutU8 ops
  | 0x02 => decPutU16le ops
  | 0x03 => decPutU32le ops
  | 0x04 => decPutBytes ops
  | 0x05 => decGetU8 ops
  | 0x06 => decGetU16le ops
  | 0x07 => decGetU32le ops
  | 0x08 => decGetBytes ops
  | 0x09 => decGetBytesUpto ops
  | 0x10 => decH15Pack ops
  | 0x11 => decH15Unpack ops
  | 0x12 => decH20Pack ops
  | 0x13 => decH20Unpack ops
  | 0x14 => decPadSize ops
  | 0x15 => decTrlPack ops
  | 0x16 => decTrlUnpack ops
  | 0x20 => decS15Pack ops
  | 0x21 => decS15Unpack ops
  | 0x22 => decS20Pack ops
  | 0x23 => decS20Unpack ops
  | 0x30 => decCtxCreate ops
  | 0x31 => decCtxDestroy ops
  | 0x32 => decCtxRead ops
  | 0x33 => decCtxSetV15 ops
  | 0x34 => decCtxSetV15Sid ops
  | 0x35 => decCtxSetV15Seq ops
  | 0x36 => decCtxSetV20Sid ops
  | 0x37 => decCtxSetV20Seq ops
  | 0x38 => decCtxSetV20Keys ops
  | 0x39 => decSmAdvance ops
  | 0x3A => decSmReset ops
  | 0x40 => decGen15 ops
  | 0x41 => decGen20 ops
  | 0x42 => decBuild ops
  | 0x43 => decParse ops
  | _ => .error (.refuse (.reservedOp tag))

/-! ### Wire formats: the discriminating bytes select the row (R71, R74) -/

/-- The row a v1.5 header value came from (R71). -/
def wire15Of (h : H15) : Instr :=
  match h.authCode with
  | none => .wireW15n h.seq h.sid h.payloadLen
  | some code => .wireW15a h.authType h.seq h.sid code h.payloadLen

/-- The row a v2.0 header value came from (R74). -/
def wire20Of (h : H20) : Instr :=
  match h.oem with
  | none => .wireW20 h.authType h.enc h.auth h.pt h.sid h.seq h.payloadLen
  | some o => .wireW20o h.authType h.enc h.auth o.iana o.pid h.sid h.seq h.payloadLen

/-- The row of a trailer value (R75). -/
def wireTrlOf (t : Trl) : Instr := .wireWtrl t.pad t.padLen t.nextHeader t.authCode

/-- A reading that is too short is an error, not a refusal (R88, R261). -/
def orRaise {α : Type} : Except Error α → Except Reject α
  | .ok a => .ok a
  | .error e => .error (.raise e)

/-- The decoder. -/
def decode (cfg : Config) : Request → Except Reject Instr
  | .op tag ops => decodeOp tag ops
  | .header15 buf => (orRaise (readHeader15 buf)).map fun r => wire15Of r.1
  | .header20 buf => (orRaise (readHeader20 cfg buf)).map fun r => wire20Of r.1
  | .trailer p buf => do
    let pad ← asPadCount p
    let r ← orRaise (readTrailer buf 0 pad)
    .ok (wireTrlOf r.1)

/-! ### The encoder -/

/-- An H15 record as an operand. -/
def rawH15 (h : H15) : RawH15 :=
  { authType := h.authType.toNat, seq := h.seq.toNat, sid := h.sid.toNat, authCode := h.authCode,
    payloadLen := h.payloadLen.toNat }

/-- An optional OEM record as an operand. -/
def rawOem (o : Option Oem) : Option RawOem := o.map fun o => { iana := o.iana.toNat, pid := o.pid.toNat }

/-- An H20 record as an operand. -/
def rawH20 (h : H20) : RawH20 :=
  { authType := h.authType.toNat, enc := boolCode h.enc, auth := boolCode h.auth, pt := h.pt.toNat,
    oem := rawOem h.oem, sid := h.sid.toNat, seq := h.seq.toNat, payloadLen := h.payloadLen.toNat }

/-- A TRL record as an operand. -/
def rawTrl (t : Trl) : RawTrl :=
  { pad := t.pad, padLen := t.padLen.toNat, nextHeader := t.nextHeader.toNat, authCode := t.authCode }

/-- An S15 record as an operand. -/
def rawS15 (f : S15) : RawS15 := { hdr := rawH15 f.hdr, payload := f.payload }

/-- An S20 record as an operand. -/
def rawS20 (f : S20) : RawS20 :=
  { hdr := rawH20 f.hdr, payload := f.payload, trailer := f.trailer.map rawTrl }

/-- The v1.5 header value a W15N row spells (R70). -/
def w15nHeader (seq sid : U32) (payloadLen : Byte) : H15 :=
  { authType := authNone, seq := seq, sid := sid, authCode := none, payloadLen := payloadLen }

/-- The v1.5 header value a W15A row spells (R70). -/
def w15aHeader (authType : Byte) (seq sid : U32) (authCode : Bytes) (payloadLen : Byte) : H15 :=
  { authType := authType, seq := seq, sid := sid, authCode := some authCode, payloadLen := payloadLen }

/-- The v2.0 header value a W20 row spells (R72). -/
def w20Header (authType : Byte) (enc auth : Bool) (pt : UInt6) (sid seq : U32) (payloadLen : U16) : H20 :=
  { authType := authType, enc := enc, auth := auth, pt := pt, oem := none, sid := sid, seq := seq,
    payloadLen := payloadLen }

/-- The v2.0 header value a W20O row spells (R72), its payload type being PT_OEM (R74). -/
def w20oHeader (cfg : Config) (authType : Byte) (enc auth : Bool) (iana : U32) (pid : U16) (sid seq : U32)
    (payloadLen : U16) : H20 :=
  { authType := authType, enc := enc, auth := auth, pt := cfg.ptOem, oem := some { iana := iana, pid := pid },
    sid := sid, seq := seq, payloadLen := payloadLen }

/-- The trailer value a WTRL row spells (R75). -/
def wtrlTrailer (pad : Bytes) (padLen nextHeader : Byte) (authCode : Bytes) : Trl :=
  { pad := pad, padLen := padLen, nextHeader := nextHeader, authCode := authCode }

/-- The request of an instruction: tags from R91, operands in the order of each operation's rule, wire bytes from R70,
R72 and R75. -/
def encode (cfg : Config) : Instr → Request
  | .putU8 buf off v => .op 0x01#8 [.bytes buf, .num off, .num v.toNat]
  | .putU16le buf off v => .op 0x02#8 [.bytes buf, .num off, .num v.toNat]
  | .putU32le buf off v => .op 0x03#8 [.bytes buf, .num off, .num v.toNat]
  | .putBytes buf off bs => .op 0x04#8 [.bytes buf, .num off, .bytes bs]
  | .getU8 buf off => .op 0x05#8 [.bytes buf, .num off]
  | .getU16le buf off => .op 0x06#8 [.bytes buf, .num off]
  | .getU32le buf off => .op 0x07#8 [.bytes buf, .num off]
  | .getBytes buf off n => .op 0x08#8 [.bytes buf, .num off, .num n]
  | .getBytesUpto buf off n => .op 0x09#8 [.bytes buf, .num off, .num n]
  | .h15Pack h => .op 0x10#8 [.h15 (rawH15 h)]
  | .h15Unpack buf => .op 0x11#8 [.bytes buf]
  | .h20Pack h => .op 0x12#8 [.h20 (rawH20 h)]
  | .h20Unpack buf => .op 0x13#8 [.bytes buf]
  | .padSize l => .op 0x14#8 [.num l]
  | .trlPack t => .op 0x15#8 [.trl (rawTrl t)]
  | .trlUnpack buf off p => .op 0x16#8 [.bytes buf, .num off, .num p]
  | .s15Pack f => .op 0x20#8 [.s15 (rawS15 f)]
  | .s15Unpack buf => .op 0x21#8 [.bytes buf]
  | .s20Pack f => .op 0x22#8 [.s20 (rawS20 f)]
  | .s20Unpack buf => .op 0x23#8 [.bytes buf]
  | .ctxCreate proto => .op 0x30#8 [.num (protoCode proto)]
  | .ctxDestroy => .op 0x31#8 []
  | .ctxRead => .op 0x32#8 []
  | .ctxSetV15 active authType => .op 0x33#8 [.num (boolCode active), .num authType.toNat]
  | .ctxSetV15Sid v => .op 0x34#8 [.num v.toNat]
  | .ctxSetV15Seq v => .op 0x35#8 [.num v.toNat]
  | .ctxSetV20Sid v => .op 0x36#8 [.num v.toNat]
  | .ctxSetV20Seq v => .op 0x37#8 [.num v.toNat]
  | .ctxSetV20Keys k => .op 0x38#8 [.num k.token]
  | .smAdvance target => .op 0x39#8 [.num (stateCode target)]
  | .smReset => .op 0x3A#8 []
  | .gen15 raw => .op 0x40#8 [.bytes raw]
  | .gen20 raw pt oem => .op 0x41#8 [.bytes raw, .num pt.toNat, .oem (rawOem oem)]
  | .build raw pt oem => .op 0x42#8 [.bytes raw, .num pt.toNat, .oem (rawOem oem)]
  | .parse frame => .op 0x43#8 [.bytes frame]
  | .wireW15n seq sid payloadLen => .header15 (header15Bytes (w15nHeader seq sid payloadLen))
  | .wireW15a authType seq sid authCode payloadLen =>
    .header15 (header15Bytes (w15aHeader authType seq sid authCode payloadLen))
  | .wireW20 authType enc auth pt sid seq payloadLen =>
    .header20 (header20Bytes (w20Header authType enc auth pt sid seq payloadLen))
  | .wireW20o authType enc auth iana pid sid seq payloadLen =>
    .header20 (header20Bytes (w20oHeader cfg authType enc auth iana pid sid seq payloadLen))
  | .wireWtrl pad padLen nextHeader authCode =>
    .trailer pad.length (trailerBytes (wtrlTrailer pad padLen nextHeader authCode))

/-! ### A row of opcode_table.json as a request (log entry 11) -/

/-- The operand list of zeros of an operation: empty buffers, zero numbers, absent options. -/
def zeroOperands (tag : Byte) : List Operand :=
  match tag.toNat with
  | 0x01 | 0x02 | 0x03 | 0x08 | 0x09 | 0x16 => [.bytes [], .num 0, .num 0]
  | 0x04 => [.bytes [], .num 0, .bytes []]
  | 0x05 | 0x06 | 0x07 => [.bytes [], .num 0]
  | 0x10 => [.h15 ⟨0, 0, 0, none, 0⟩]
  | 0x12 => [.h20 ⟨0, 0, 0, 0, none, 0, 0, 0⟩]
  | 0x15 => [.trl ⟨[], 0, 0, []⟩]
  | 0x20 => [.s15 ⟨⟨0, 0, 0, none, 0⟩, []⟩]
  | 0x22 => [.s20 ⟨⟨0, 0, 0, 0, none, 0, 0, 0⟩, [], none⟩]
  | 0x11 | 0x13 | 0x21 | 0x23 | 0x40 | 0x43 => [.bytes []]
  | 0x14 | 0x30 | 0x34 | 0x35 | 0x36 | 0x37 | 0x38 | 0x39 => [.num 0]
  | 0x33 => [.num 0, .num 0]
  | 0x41 | 0x42 => [.bytes [], .num 0, .oem none]
  | _ => []

/-- The request a table row's bits spell. A row of format OP is its 8-bit tag with operands of zeros; the rows of the
wire formats are told apart by their lengths, 10 or 26 bytes (v1.5), 12 or 18 bytes (v2.0), and the shortest trailer,
2 bytes. -/
def tableRequest (nbits w : Nat) : Option Request :=
  match nbits with
  | 8 => some (.op (BitVec.ofNat 8 w) (zeroOperands (BitVec.ofNat 8 w)))
  | 16 => some (.trailer 0 (bytesOfNat 2 w))
  | 80 => some (.header15 (bytesOfNat 10 w))
  | 96 => some (.header20 (bytesOfNat 12 w))
  | 144 => some (.header20 (bytesOfNat 18 w))
  | 208 => some (.header15 (bytesOfNat 26 w))
  | _ => none

/-- The instruction the decoder reads from a table row's bits, with PT_OEM at its default. -/
def decodeTableWord (nbits w : Nat) : Option Instr :=
  match tableRequest nbits w with
  | none => none
  | some r => (decode .default r).toOption

end Sys2Proof
end

