-- ==== Sys2Proof/Machine/State.lean ====
section
/-! DEFINITION. The state of the machine as plain data (10_state.md R24 to R35), what a step can end in besides a next
state, and the state at power-on (70_reset_and_hazards.md R291). -/

namespace Sys2Proof.Machine

/-- The answers the collaborator ports will give, first call first (inputs of a step, R21, R40).
A port whose list is used up answers with a free draw of Config (log entry 2, DESIGN CHOICE). -/
structure Collaborators where
  ac : List (Answer Bytes)
  enc : List (Answer Bytes)
  trlgen : List (Answer Trl)
deriving DecidableEq, Repr

/-- The machine.
`cfg` is PT_OEM (R8), never written; `ctx` the ten context registers (R24); `pos` and `pending` the host's position in
its program and the requests from there on (R23); `collab` the collaborators' answers to come; `draws` the counter of
the free values (log entries 2 and 6); `report` what the block hands the host for the operation just ended (R21, R41);
`refusalMark` the mark a run keeps once a request was refused (R270). -/
structure State where
  cfg : Config
  ctx : Context
  pos : Nat
  pending : List Request
  collab : Collaborators
  draws : Nat
  report : Option Report
  refusalMark : Bool
deriving DecidableEq, Repr

/-- Reasons to stop the machine. There is none: nobody raises a fault. Every failure of this block is an outcome the host
receives and after which the block takes the next operation (R266, R269). Safe. -/
inductive Fault where
deriving DecidableEq, Repr

/-- Reasons to give a request no meaning at all. A request the spec refuses (R270) is NOT one of them: it ends in a next
state whose report is that refusal (log entry 8). -/
inductive Refusal where
  /-- Raised by exec's arm of an instruction that has no meaning yet, and by nothing else; no arm raises it today.
  Safe: nothing is claimed of such an instruction. -/
  | notModelled (mnemonic : String)
deriving DecidableEq, Repr

/-- The registers at power-on: CTX_LIVE = 0 (R291); the other nine are undefined and unreadable until CTX_CREATE, and
hold the values CTX_CREATE V15 would give (log entry 3, DESIGN CHOICE, unsafe). -/
def Context.powerOn : Context where
  live := false
  proto := .v15
  v15Active := false
  v15AuthType := 0x00#8
  v15Sid := none
  v15Seq := none
  v20State := .preSession
  v20Sid := none
  v20Seq := none
  v20Keys := none

/-- The machine at power-on (R291, R292): no context lives, no operation has ended, PT_OEM has its default (R8), and
nothing is loaded: the host has no request and the collaborators no fixed answer (log entries 2, 5). -/
def State.reset : State where
  cfg := .default
  ctx := Context.powerOn
  pos := 0
  pending := []
  collab := { ac := [], enc := [], trlgen := [] }
  draws := 0
  report := none
  refusalMark := false

end Sys2Proof.Machine
end

