-- ==== Sys2Proof/Machine/Ops.lean ====
section
/-! DEFINITION. The named operations over the state: how an operation ends (success, error entry, refusal), the context
registers, the collaborator calls, and the host's next request. Every meaning is written over these. -/

namespace Sys2Proof.Machine

/-- What a step answers. -/
abbrev Result := Host.Outcome State Fault Refusal

/-! ### How an operation ends (10_state.md R21) -/

/-- Success: the host receives the output and the trace. -/
def State.finish (out : Output) (trace : List Event) (s : State) : State :=
  { s with report := some { ended := .ok out, trace := trace } }

/-- ERROR ENTRY (R266): the host receives the error and the trace of the calls already made; no register is written and
no buffer is returned. Errors are not sticky and nothing returns from one (R269). -/
def State.raiseError (e : Error) (trace : List Event) (s : State) : State :=
  { s with report := some { ended := .err e, trace := trace } }

/-- REFUSAL (R270): no outputs, no context change, an empty trace, and the mark the run keeps. -/
def State.refuse (r : Reason) (s : State) : State :=
  { s with report := some { ended := .refused r, trace := [] }, refusalMark := true }

/-- The end of an operation that calls no collaborator and writes no register. -/
def State.settle (x : Except Error Output) (s : State) : State :=
  match x with
  | .ok out => s.finish out []
  | .error e => s.raiseError e []

/-- A pack operation (R271): refused with the first broken check, or its bytes. -/
def State.packOr (broken : Option Check) (bytes : Bytes) (s : State) : State :=
  match broken with
  | some c => s.refuse (.illFormed c)
  | none => s.finish (.bytes bytes) []

/-! ### The context registers (10_state.md R24) -/

/-- `need_ctx` (R263): NoContext while CTX_LIVE = 0, else the operation goes on. -/
def State.needCtx (s : State) (goOn : State) : State :=
  if s.ctx.live then goOn else s.raiseError .noContext []

/-- A write of the register file by an operation of family 45 that returns `()`. -/
def State.writeCtx (c : Context) (s : State) : State :=
  ({ s with ctx := c }).finish .unit []

/-- The registers after CTX_CREATE (R201, R290). -/
def Context.created (proto : Proto) : Context where
  live := true
  proto := proto
  v15Active := false
  v15AuthType := authNone
  v15Sid := none
  v15Seq := none
  v20State := .preSession
  v20Sid := none
  v20Seq := none
  v20Keys := none

/-- The registers after CTX_DESTROY (R202): CTX_LIVE = 0, the others lost. What they hold is a free value (log entry 6),
and no operation reads it (R291). -/
def Context.destroyed (draw : Nat) : Context := { Config.lostRegisters draw with live := false }

/-! ### Collaborator calls (10_state.md R40) -/

/-- `call AC`: the port's next answer, or a free draw. -/
def State.acAnswer (s : State) : Answer Bytes :=
  match s.collab.ac with
  | a :: _ => a
  | [] => Config.acDraw s.draws

/-- `call ENC`: the port's next answer, or a free draw. -/
def State.encAnswer (s : State) : Answer Bytes :=
  match s.collab.enc with
  | a :: _ => a
  | [] => Config.encDraw s.draws

/-- `call TRLGEN`: the port's next answer, or a free draw. -/
def State.trlgenAnswer (s : State) : Answer Trl :=
  match s.collab.trlgen with
  | a :: _ => a
  | [] => Config.trlgenDraw s.draws

/-- The state after a call of AC. -/
def State.afterAc (s : State) : State :=
  { s with collab := { s.collab with ac := s.collab.ac.tail }, draws := s.draws + 1 }

/-- The state after a call of ENC. -/
def State.afterEnc (s : State) : State :=
  { s with collab := { s.collab with enc := s.collab.enc.tail }, draws := s.draws + 1 }

/-- The state after a call of TRLGEN. -/
def State.afterTrlgen (s : State) : State :=
  { s with collab := { s.collab with trlgen := s.collab.trlgen.tail }, draws := s.draws + 1 }

/-! ### The host's next request (10_state.md R23) -/

/-- The host issues its next request, and its position moves by one, whatever the outcome (R23). -/
def State.issue (rest : List Request) (s : State) : State :=
  { s with pending := rest, pos := s.pos + 1 }

/-- A request the decoder gives no instruction: refused (R272), or too few bytes of a wire format (R88, R261). -/
def State.reject (x : Reject) (s : State) : State :=
  match x with
  | .refuse r => s.refuse r
  | .raise e => s.raiseError e []

/-- The state with `r` as the host's next request, in place of the one that was next. -/
def State.place (r : Request) (s : State) : State := { s with pending := r :: s.pending.tail }

end Sys2Proof.Machine
end

