-- ==== Sys2Proof/Machine/Codec.lean ====
section
/-! DEFINITION. Family 40, the binary field codec (40_codec.md). Issued by the host, its errors carry the tag CODEC. -/

namespace Sys2Proof.Machine

/-- PUT_U8 (R101). -/
def execPutU8 (buf : Bytes) (off : Nat) (v : Byte) (s : State) : Result :=
  .next (s.settle ((writeU8 .codec buf off v).map fun out => .bufAt out (off + 1)))

/-- PUT_U16LE (R102). -/
def execPutU16le (buf : Bytes) (off : Nat) (v : U16) (s : State) : Result :=
  .next (s.settle ((writeU16 .codec buf off v).map fun out => .bufAt out (off + 2)))

/-- PUT_U32LE (R103). -/
def execPutU32le (buf : Bytes) (off : Nat) (v : U32) (s : State) : Result :=
  .next (s.settle ((writeU32 .codec buf off v).map fun out => .bufAt out (off + 4)))

/-- PUT_BYTES (R104). -/
def execPutBytes (buf : Bytes) (off : Nat) (bs : Bytes) (s : State) : Result :=
  .next (s.settle ((memWrite .codec buf off bs).map fun out => .bufAt out (off + bs.length)))

/-- GET_U8 (R105). -/
def execGetU8 (buf : Bytes) (off : Nat) (s : State) : Result :=
  .next (s.settle ((readU8 .codec buf off).map fun v => .u8At v (off + 1)))

/-- GET_U16LE (R106). -/
def execGetU16le (buf : Bytes) (off : Nat) (s : State) : Result :=
  .next (s.settle ((readU16 .codec buf off).map fun v => .u16At v (off + 2)))

/-- GET_U32LE (R107). -/
def execGetU32le (buf : Bytes) (off : Nat) (s : State) : Result :=
  .next (s.settle ((readU32 .codec buf off).map fun v => .u32At v (off + 4)))

/-- GET_BYTES (R108), the strict read. -/
def execGetBytes (buf : Bytes) (off n : Nat) (s : State) : Result :=
  .next (s.settle ((memRead .codec buf off n).map fun b => .bufAt b (off + n)))

/-- GET_BYTES_UPTO (R109), the tolerant read. -/
def execGetBytesUpto (buf : Bytes) (off n : Nat) (s : State) : Result :=
  .next (s.settle ((readUpto .codec buf off n).map fun r => .bufAt r.1 r.2))

end Sys2Proof.Machine
end

