-- ==== Sys2Proof/Machine/ContextOps.lean ====
section
/-! DEFINITION. Family 45, the session context and the v2.0 state machine (45_context.md). None of these operations looks
at PROTO (R215). -/

namespace Sys2Proof.Machine

/-- CTX_CREATE (R201), on a live context too. -/
def execCtxCreate (proto : Proto) (s : State) : Result := .next (s.writeCtx (Context.created proto))

/-- CTX_DESTROY (R202). -/
def execCtxDestroy (s : State) : Result :=
  .next (s.needCtx (({ s with draws := s.draws + 1 }).writeCtx (Context.destroyed s.draws)))

/-- CTX_READ (R203). -/
def execCtxRead (s : State) : Result := .next (s.needCtx (s.finish (.context s.ctx) []))

/-- CTX_SET_V15 (R204): an active session's auth type is fixed. -/
def execCtxSetV15 (active : Bool) (authType : Byte) (s : State) : Result :=
  .next (s.needCtx (
    if s.ctx.v15Active ∧ active ∧ authType ≠ s.ctx.v15AuthType then
      s.raiseError (.illegalTransition .v15AuthTypeFixed) []
    else s.writeCtx { s.ctx with v15Active := active, v15AuthType := authType }))

/-- CTX_SET_V15_SID (R205). -/
def execCtxSetV15Sid (v : U32) (s : State) : Result := .next (s.needCtx (s.writeCtx { s.ctx with v15Sid := some v }))

/-- CTX_SET_V15_SEQ (R206). -/
def execCtxSetV15Seq (v : U32) (s : State) : Result := .next (s.needCtx (s.writeCtx { s.ctx with v15Seq := some v }))

/-- CTX_SET_V20_SID (R207). -/
def execCtxSetV20Sid (v : U32) (s : State) : Result := .next (s.needCtx (s.writeCtx { s.ctx with v20Sid := some v }))

/-- CTX_SET_V20_SEQ (R208). -/
def execCtxSetV20Seq (v : U32) (s : State) : Result := .next (s.needCtx (s.writeCtx { s.ctx with v20Seq := some v }))

/-- CTX_SET_V20_KEYS (R209). -/
def execCtxSetV20Keys (k : Key) (s : State) : Result := .next (s.needCtx (s.writeCtx { s.ctx with v20Keys := some k }))

/-- SM_ADVANCE (R210): to the immediate successor only, and from CloseSent to nothing. -/
def execSmAdvance (target : V20State) (s : State) : Result :=
  .next (s.needCtx (
    if s.ctx.v20State = .closeSent ∨ stateCode target ≠ stateCode s.ctx.v20State + 1 then
      s.raiseError (.illegalTransition (.v20State s.ctx.v20State target)) []
    else s.writeCtx { s.ctx with v20State := target }))

/-- SM_RESET (R211): the v1.5 registers and PROTO stay. -/
def execSmReset (s : State) : Result :=
  .next (s.needCtx (s.writeCtx
    { s.ctx with v20State := .preSession, v20Sid := none, v20Seq := none, v20Keys := none }))

end Sys2Proof.Machine
end

