-- ==== Sys2Proof/Machine/Frame.lean ====
section
/-! DEFINITION. Family 44, whole frames (44_frame.md). -/

namespace Sys2Proof.Machine

/-- S15_PACK (R180). -/
def execS15Pack (f : S15) (s : State) : Result :=
  .next (s.packOr (firstBroken (checksS15 f)) (frame15Bytes f))

/-- S15_UNPACK (R181). -/
def execS15Unpack (buf : Bytes) (s : State) : Result :=
  .next (s.settle ((readFrame15 buf).map .s15))

/-- S20_PACK (R182). -/
def execS20Pack (f : S20) (s : State) : Result :=
  .next (s.packOr (firstBroken (checksS20 s.cfg f)) (frame20Bytes f))

/-- S20_UNPACK (R183). -/
def execS20Unpack (buf : Bytes) (s : State) : Result :=
  .next (s.settle ((readFrame20 s.cfg buf).map .s20))

end Sys2Proof.Machine
end

