-- ==== Sys2Proof/Machine/Generator.lean ====
section
/-! DEFINITION. Family 46, the frame generator and the exposed ports (46_generator.md). None of them writes a context
register (10_state.md R42); the order of checks is each pseudocode's (60_exceptions.md R268). -/

namespace Sys2Proof.Machine

/-- The frame of a payload of at most 255 bytes under a v1.5 header (R231). -/
def gen15Frame (authType : Byte) (seq sid : U32) (authCode : Option Bytes) (raw : Bytes) : Bytes :=
  frame15Bytes { hdr := { authType := authType, seq := seq, sid := sid, authCode := authCode,
                          payloadLen := BitVec.ofNat 8 raw.length },
                 payload := raw }

/-- AC's answer taken (R231): a code of exactly 16 bytes, or CollaboratorFailure. -/
def State.gen15WithAnswer (raw : Bytes) (sid seq : U32) (answer : Answer Bytes) (s : State) : State :=
  match answer with
  | .fail => s.raiseError (.collaboratorFailure .ac .failed) [.ac raw answer]
  | .ok code =>
    if code.length ≠ h15AuthCodeLen then s.raiseError (.collaboratorFailure .ac .badResult) [.ac raw answer]
    else s.finish (.bytes (gen15Frame s.ctx.v15AuthType seq sid (some code) raw)) [.ac raw answer]

/-- GEN15's authenticated case (R231): session ID, then sequence, then AC over the raw payload. -/
def State.gen15Authenticated (raw : Bytes) (s : State) : State :=
  match s.ctx.v15Sid, s.ctx.v15Seq with
  | none, _ => s.raiseError (.unwrittenContext .v15Sid) []
  | some _, none => s.raiseError (.unwrittenContext .v15Seq) []
  | some sid, some seq => s.afterAc.gen15WithAnswer raw sid seq s.acAnswer

/-- GEN15 (R231). -/
def State.gen15 (raw : Bytes) (s : State) : State :=
  s.needCtx (
    if raw.length > LengthLimit.limit255.value then s.raiseError (.payloadTooLong .limit255) []
    else if s.ctx.v15Active ∧ s.ctx.v15AuthType ≠ authNone then s.gen15Authenticated raw
    else s.finish (.bytes (gen15Frame authNone 0#32 0#32 none raw)) [])

/-- The header GEN20 builds over the payload as it goes on the wire (R233). -/
def gen20Header (active : Bool) (pt : UInt6) (oem : Option Oem) (sid seq : U32) (p : Bytes) : H20 :=
  { authType := authRmcpp, enc := active, auth := active, pt := pt, oem := oem, sid := sid, seq := seq,
    payloadLen := BitVec.ofNat 16 p.length }

/-- Whether GEN20 takes a trailer from TRLGEN (R233, R234): well-formed, and of the pad count of its frame. -/
def trailerAccepted (t : Trl) (hb p : Bytes) : Bool :=
  trailerHolds t && t.pad.length == padSize (hb.length + p.length)

/-- TRLGEN's answer taken (R233, R234). -/
def State.gen20WithTrailer (hb p : Bytes) (answer : Answer Trl) (trace : List Event) (s : State) : State :=
  match answer with
  | .fail => s.raiseError (.collaboratorFailure .trlgen .failed) (trace ++ [.trlgen hb p answer])
  | .ok t =>
    if trailerAccepted t hb p then s.finish (.bytes (hb ++ p ++ trailerBytes t)) (trace ++ [.trlgen hb p answer])
    else s.raiseError (.collaboratorFailure .trlgen .badResult) (trace ++ [.trlgen hb p answer])

/-- GEN20 once the payload that goes on the wire is known (R233): its length, the header, the trailer. -/
def State.gen20Sealed (active : Bool) (pt : UInt6) (oem : Option Oem) (sid seq : U32) (p : Bytes)
    (trace : List Event) (s : State) : State :=
  if p.length > LengthLimit.limit65535.value then s.raiseError (.payloadTooLong .limit65535) trace
  else
    let h := gen20Header active pt oem sid seq p
    let hb := header20Bytes h
    if trailerExpected h then s.afterTrlgen.gen20WithTrailer hb p s.trlgenAnswer trace
    else s.finish (.bytes (hb ++ p)) trace

/-- ENC's answer taken (R233): any bytes are an acceptable payload (R262). -/
def State.gen20WithPayload (raw : Bytes) (pt : UInt6) (oem : Option Oem) (sid seq : U32) (answer : Answer Bytes)
    (s : State) : State :=
  match answer with
  | .fail => s.raiseError (.collaboratorFailure .enc .failed) [.enc raw s.ctx.v20Keys answer]
  | .ok p => s.gen20Sealed true pt oem sid seq p [.enc raw s.ctx.v20Keys answer]

/-- GEN20 in Active (R233): session ID, then sequence, then ENC with the keys unread. -/
def State.gen20Active (raw : Bytes) (pt : UInt6) (oem : Option Oem) (s : State) : State :=
  match s.ctx.v20Sid, s.ctx.v20Seq with
  | none, _ => s.raiseError (.unwrittenContext .v20Sid) []
  | some _, none => s.raiseError (.unwrittenContext .v20Seq) []
  | some sid, some seq => s.afterEnc.gen20WithPayload raw pt oem sid seq s.encAnswer

/-- GEN20 (R233): the refusals of its `oem` operand's shape come before the context check (R268, C8). -/
def State.gen20 (raw : Bytes) (pt : UInt6) (oem : Option Oem) (s : State) : State :=
  match oemShape s.cfg pt oem with
  | some name => s.refuse (.operandShape name)
  | none => s.needCtx (
      if s.ctx.v20State = .active then s.gen20Active raw pt oem
      else s.gen20Sealed false pt oem 0#32 0#32 raw [])

/-- GEN15 (R231). -/
def execGen15 (raw : Bytes) (s : State) : Result := .next (s.gen15 raw)

/-- GEN20 (R233). -/
def execGen20 (raw : Bytes) (pt : UInt6) (oem : Option Oem) (s : State) : Result := .next (s.gen20 raw pt oem)

/-- BUILD (R238): the context is checked first, then PROTO decides (C8). -/
def execBuild (raw : Bytes) (pt : UInt6) (oem : Option Oem) (s : State) : Result :=
  .next (s.needCtx (
    match s.ctx.proto with
    | .v15 => s.gen15 raw
    | .v20 => s.gen20 raw pt oem))

/-- PARSE (R239): it transforms and verifies nothing (R240). -/
def execParse (frame : Bytes) (s : State) : Result :=
  .next (s.needCtx (
    match s.ctx.proto with
    | .v15 => s.settle ((readFrame15 frame).map fun f => .parsed15 f.payload f)
    | .v20 => s.settle ((readFrame20 s.cfg frame).map fun f => .parsed20 f.payload f)))

end Sys2Proof.Machine
end

