-- ==== Sys2Proof/Machine/Headers.lean ====
section
/-! DEFINITION. Families 41 and 42, the session headers v1.5 and v2.0 (41_header15.md, 42_header20.md). -/

namespace Sys2Proof.Machine

/-- H15_PACK (R120). -/
def execH15Pack (h : H15) (s : State) : Result :=
  .next (s.packOr (firstBroken (checksH15 h)) (header15Bytes h))

/-- H15_UNPACK (R121). -/
def execH15Unpack (buf : Bytes) (s : State) : Result :=
  .next (s.settle ((readHeader15 buf).map fun r => .h15 r.1 r.2))

/-- H20_PACK (R140). -/
def execH20Pack (h : H20) (s : State) : Result :=
  .next (s.packOr (firstBroken (checksH20 s.cfg h)) (header20Bytes h))

/-- H20_UNPACK (R141). -/
def execH20Unpack (buf : Bytes) (s : State) : Result :=
  .next (s.settle ((readHeader20 s.cfg buf).map fun r => .h20 r.1 r.2))

end Sys2Proof.Machine
end

