-- ==== Sys2Proof/Machine/Trailer.lean ====
section
/-! DEFINITION. Family 43, the session trailer (43_trailer.md). -/

namespace Sys2Proof.Machine

/-- PAD_SIZE (R161). -/
def execPadSize (l : Nat) (s : State) : Result := .next (s.finish (.nat (padSize l)) [])

/-- TRL_PACK (R164). -/
def execTrlPack (t : Trl) (s : State) : Result :=
  .next (s.packOr (firstBroken (checksTrl t)) (trailerBytes t))

/-- TRL_UNPACK (R166); a pad count above 3 is outside its operand's type (R272). -/
def execTrlUnpack (buf : Bytes) (off p : Nat) (s : State) : Result :=
  if p ≤ 3 then .next (s.settle ((readTrailer buf off p).map fun r => .trl r.1 r.2))
  else .next (s.refuse (.operandRange .p))

end Sys2Proof.Machine
end

