-- ==== Sys2Proof/Machine/WireRows.lean ====
section
/-! DEFINITION. The five wire-format rows of the opcode table (30_encoding.md R70, R72, R75): presented to the block,
the bytes of a row are read by the unpack of its format (log entry 7, DESIGN CHOICE), and nothing else happens. -/

namespace Sys2Proof.Machine

/-- WIRE_W15N (R70), read as R121 reads it. -/
def execWireW15n (seq sid : U32) (payloadLen : Byte) (s : State) : Result :=
  .next (s.settle ((readHeader15 (header15Bytes (w15nHeader seq sid payloadLen))).map fun r => .h15 r.1 r.2))

/-- WIRE_W15A (R70), read as R121 reads it. -/
def execWireW15a (authType : Byte) (seq sid : U32) (authCode : Bytes) (payloadLen : Byte) (s : State) : Result :=
  .next (s.settle ((readHeader15 (header15Bytes (w15aHeader authType seq sid authCode payloadLen))).map
    fun r => .h15 r.1 r.2))

/-- WIRE_W20 (R72), read as R141 reads it. -/
def execWireW20 (authType : Byte) (enc auth : Bool) (pt : UInt6) (sid seq : U32) (payloadLen : U16) (s : State) :
    Result :=
  .next (s.settle ((readHeader20 s.cfg (header20Bytes (w20Header authType enc auth pt sid seq payloadLen))).map
    fun r => .h20 r.1 r.2))

/-- WIRE_W20O (R72), read as R141 reads it. -/
def execWireW20o (authType : Byte) (enc auth : Bool) (iana : U32) (pid : U16) (sid seq : U32) (payloadLen : U16)
    (s : State) : Result :=
  .next (s.settle ((readHeader20 s.cfg
    (header20Bytes (w20oHeader s.cfg authType enc auth iana pid sid seq payloadLen))).map fun r => .h20 r.1 r.2))

/-- WIRE_WTRL (R75), read as R166 reads it from the trailer's first byte with the pad count of its own pad. -/
def execWireWtrl (pad : Bytes) (padLen nextHeader : Byte) (authCode : Bytes) (s : State) : Result :=
  if pad.length ≤ 3 then
    .next (s.settle ((readTrailer (trailerBytes (wtrlTrailer pad padLen nextHeader authCode)) 0 pad.length).map
      fun r => .trl r.1 r.2))
  else .next (s.refuse (.operandRange .p))

end Sys2Proof.Machine
end

