-- ==== Sys2Proof/Machine/Dispatch.lean ====
section
/-! DEFINITION. The dispatch: one arm per constructor of Instr, each one call of that instruction's meaning. -/

namespace Sys2Proof.Machine

def exec (i : Instr) (s : State) : Host.Outcome State Fault Refusal :=
  match i with
  | .putU8 buf off v => Sys2Proof.Machine.execPutU8 buf off v s
  | .putU16le buf off v => Sys2Proof.Machine.execPutU16le buf off v s
  | .putU32le buf off v => Sys2Proof.Machine.execPutU32le buf off v s
  | .putBytes buf off bs => Sys2Proof.Machine.execPutBytes buf off bs s
  | .getU8 buf off => Sys2Proof.Machine.execGetU8 buf off s
  | .getU16le buf off => Sys2Proof.Machine.execGetU16le buf off s
  | .getU32le buf off => Sys2Proof.Machine.execGetU32le buf off s
  | .getBytes buf off n => Sys2Proof.Machine.execGetBytes buf off n s
  | .getBytesUpto buf off n => Sys2Proof.Machine.execGetBytesUpto buf off n s
  | .h15Pack h => Sys2Proof.Machine.execH15Pack h s
  | .h15Unpack buf => Sys2Proof.Machine.execH15Unpack buf s
  | .h20Pack h => Sys2Proof.Machine.execH20Pack h s
  | .h20Unpack buf => Sys2Proof.Machine.execH20Unpack buf s
  | .padSize l => Sys2Proof.Machine.execPadSize l s
  | .trlPack t => Sys2Proof.Machine.execTrlPack t s
  | .trlUnpack buf off p => Sys2Proof.Machine.execTrlUnpack buf off p s
  | .s15Pack f => Sys2Proof.Machine.execS15Pack f s
  | .s15Unpack buf => Sys2Proof.Machine.execS15Unpack buf s
  | .s20Pack f => Sys2Proof.Machine.execS20Pack f s
  | .s20Unpack buf => Sys2Proof.Machine.execS20Unpack buf s
  | .ctxCreate proto => Sys2Proof.Machine.execCtxCreate proto s
  | .ctxDestroy => Sys2Proof.Machine.execCtxDestroy s
  | .ctxRead => Sys2Proof.Machine.execCtxRead s
  | .ctxSetV15 active authType => Sys2Proof.Machine.execCtxSetV15 active authType s
  | .ctxSetV15Sid v => Sys2Proof.Machine.execCtxSetV15Sid v s
  | .ctxSetV15Seq v => Sys2Proof.Machine.execCtxSetV15Seq v s
  | .ctxSetV20Sid v => Sys2Proof.Machine.execCtxSetV20Sid v s
  | .ctxSetV20Seq v => Sys2Proof.Machine.execCtxSetV20Seq v s
  | .ctxSetV20Keys k => Sys2Proof.Machine.execCtxSetV20Keys k s
  | .smAdvance target => Sys2Proof.Machine.execSmAdvance target s
  | .smReset => Sys2Proof.Machine.execSmReset s
  | .gen15 raw => Sys2Proof.Machine.execGen15 raw s
  | .gen20 raw pt oem => Sys2Proof.Machine.execGen20 raw pt oem s
  | .build raw pt oem => Sys2Proof.Machine.execBuild raw pt oem s
  | .parse frame => Sys2Proof.Machine.execParse frame s
  | .wireW15n seq sid payloadLen => Sys2Proof.Machine.execWireW15n seq sid payloadLen s
  | .wireW15a authType seq sid authCode payloadLen => Sys2Proof.Machine.execWireW15a authType seq sid authCode payloadLen s
  | .wireW20 authType enc auth pt sid seq payloadLen => Sys2Proof.Machine.execWireW20 authType enc auth pt sid seq payloadLen s
  | .wireW20o authType enc auth iana pid sid seq payloadLen => Sys2Proof.Machine.execWireW20o authType enc auth iana pid sid seq payloadLen s
  | .wireWtrl pad padLen nextHeader authCode => Sys2Proof.Machine.execWireWtrl pad padLen nextHeader authCode s

end Sys2Proof.Machine
end

