-- ==== Sys2Proof/Machine/Step.lean ====
section
/-! DEFINITION. One step of the machine (10_state.md R21): the host issues its next request, the decoder reads it, the
block executes it to its end. -/

namespace Sys2Proof.Machine

/-- With no request to issue, the block holds its registers (R278, log entry 5). -/
def step (s : State) : Host.Outcome State Fault Refusal :=
  match s.pending with
  | [] => .next s
  | r :: rest =>
    match decode s.cfg r with
    | .ok i => exec i (s.issue rest)
    | .error x => .next ((s.issue rest).reject x)

/-- The state with a table row's request (log entry 11) as the host's next one. -/
def State.withFetchWord (s : State) (nbits w : Nat) : State :=
  match tableRequest nbits w with
  | none => s
  | some r => s.place r

end Sys2Proof.Machine
end

