-- ==== Sys2Proof/Safety.lean ====
section
/-! DEFINITION. The terms claims are stated in: how an operation answers, the well-formed values of 30_encoding.md
section 5, where a field stands in a buffer, and what a sound report and a clean run are. -/

namespace Sys2Proof.Machine

/-! ### How an operation answers

Each of these is an equation for the whole next state, so it says the frame too: nothing but the report (and for a
refusal the mark) changes. -/

/-- `i` ends with output `out` and changes nothing else. -/
def ReportsOk (i : Instr) (s : State) (out : Output) : Prop :=
  exec i s = .next { s with report := some { ended := .ok out, trace := [] } }

/-- `i` raises `e` before any collaborator call and changes nothing else (R266). -/
def ReportsErr (i : Instr) (s : State) (e : Error) : Prop :=
  exec i s = .next { s with report := some { ended := .err e, trace := [] } }

/-- `i` is refused for `r`: the mark is set and nothing else changes (R270). -/
def Refuses (i : Instr) (s : State) (r : Reason) : Prop :=
  exec i s = .next { s with report := some { ended := .refused r, trace := [] }, refusalMark := true }

/-- `i` writes the context registers, returns `()` and changes nothing else. -/
def WritesCtx (i : Instr) (s : State) (c : Context) : Prop :=
  exec i s = .next { s with ctx := c, report := some { ended := .ok .unit, trace := [] } }

/-- What `i` ended with in `s`, if it answered a next state. -/
def reportOf : Result → Option Report
  | .next t => t.report
  | .fault _ => none
  | .refused _ => none

/-! ### Where a field stands (20_memory.md R52) -/

/-- The 16-bit field at an offset. -/
def u16At (buf : Bytes) (o : Nat) : U16 := buf.getD (o + 1) 0#8 ++ buf.getD o 0#8

/-- The 32-bit field at an offset. -/
def u32At (buf : Bytes) (o : Nat) : U32 :=
  buf.getD (o + 3) 0#8 ++ buf.getD (o + 2) 0#8 ++ buf.getD (o + 1) 0#8 ++ buf.getD o 0#8

/-- The `n` bytes at an offset. -/
def bytesAt (buf : Bytes) (o n : Nat) : Bytes := (buf.drop o).take n

/-! ### What stands in a buffer, field by field (30_encoding.md R70 to R78) -/

/-- The size of the v1.5 header byte 0 selects (R71). -/
def size15At (buf : Bytes) : Nat := if buf.getD 0 0#8 = 0x00#8 then 10 else 26

/-- The v1.5 header at the start of a buffer (R70). -/
def h15At (buf : Bytes) : H15 where
  authType := buf.getD 0 0#8
  seq := u32At buf 1
  sid := u32At buf 5
  authCode := if buf.getD 0 0#8 = 0x00#8 then none else some (bytesAt buf 9 16)
  payloadLen := buf.getD (size15At buf - 1) 0#8

/-- The v1.5 frame at the start of a buffer (R77). -/
def s15At (buf : Bytes) : S15 where
  hdr := h15At buf
  payload := bytesAt buf (size15At buf) (h15At buf).payloadLen.toNat

/-- The size of the v2.0 header the payload type selects (R74). -/
def size20At (cfg : Config) (buf : Bytes) : Nat := if (buf.getD 1 0#8).extractLsb' 0 6 = cfg.ptOem then 18 else 12

/-- The v2.0 header at the start of a buffer (R72, R73): the OEM fields push the three fields after them by 6 bytes. -/
def h20At (cfg : Config) (buf : Bytes) : H20 where
  authType := buf.getD 0 0#8
  enc := (buf.getD 1 0#8).getLsbD 7
  auth := (buf.getD 1 0#8).getLsbD 6
  pt := (buf.getD 1 0#8).extractLsb' 0 6
  oem := if (buf.getD 1 0#8).extractLsb' 0 6 = cfg.ptOem then some { iana := u32At buf 2, pid := u16At buf 6 } else none
  sid := u32At buf (size20At cfg buf - 10)
  seq := u32At buf (size20At cfg buf - 6)
  payloadLen := u16At buf (size20At cfg buf - 2)

/-- The trailer at an offset, its pad count given (R75, R166). -/
def trlAt (buf : Bytes) (off p : Nat) : Trl where
  pad := bytesAt buf off p
  padLen := buf.getD (off + p) 0#8
  nextHeader := buf.getD (off + p + 1) 0#8
  authCode := bytesAt buf (off + p + 2) 16

/-- Where the payload of a v2.0 frame ends. -/
def end20At (cfg : Config) (buf : Bytes) : Nat := size20At cfg buf + (h20At cfg buf).payloadLen.toNat

/-- The v2.0 frame at the start of a buffer (R78), with the trailer R76 announces. -/
def s20At (cfg : Config) (buf : Bytes) : S20 where
  hdr := h20At cfg buf
  payload := bytesAt buf (size20At cfg buf) (h20At cfg buf).payloadLen.toNat
  trailer :=
    if (h20At cfg buf).auth = true ∧ (h20At cfg buf).sid ≠ 0#32 then
      some (trlAt buf (end20At cfg buf) ((4 - end20At cfg buf % 4) % 4))
    else none

/-- A buffer holds a whole v1.5 frame. -/
abbrev Whole15 (buf : Bytes) : Prop := size15At buf + (h15At buf).payloadLen.toNat ≤ buf.length

/-- A buffer holds a whole v2.0 frame, its trailer up to the next-header byte if it has one. -/
abbrev Whole20 (cfg : Config) (buf : Bytes) : Prop :=
  end20At cfg buf ≤ buf.length ∧
  ((h20At cfg buf).auth = true ∧ (h20At cfg buf).sid ≠ 0#32 →
    end20At cfg buf + (4 - end20At cfg buf % 4) % 4 + 2 ≤ buf.length)

/-! ### Well-formed values (30_encoding.md R80 to R84) -/

/-- The checks of R80. -/
abbrev ValidH15 (h : H15) : Prop :=
  (h.authCode = none ↔ h.authType = 0x00#8) ∧ ∀ c ∈ h.authCode, c.length = 16

/-- The checks of R81. -/
abbrev ValidH20 (cfg : Config) (h : H20) : Prop :=
  h.authType = 0x06#8 ∧ (h.oem.isSome ↔ h.pt = cfg.ptOem) ∧ ∀ o ∈ h.oem, o.iana.toNat < 2 ^ 24

/-- The v2.0 header R233 builds: RMCP+, both flags set or both clear, the length of the payload as it goes on the
wire. -/
def headerOver (active : Bool) (pt : UInt6) (oem : Option Oem) (sid seq : U32) (p : Bytes) : H20 where
  authType := 0x06#8
  enc := active
  auth := active
  pt := pt
  oem := oem
  sid := sid
  seq := seq
  payloadLen := BitVec.ofNat 16 p.length

/-- The shape R233 asks of an `oem` operand: there iff the payload type is PT_OEM, its IANA's top byte zero. -/
abbrev OemFits (cfg : Config) (pt : UInt6) (oem : Option Oem) : Prop :=
  (oem.isSome ↔ pt = cfg.ptOem) ∧ ∀ o ∈ oem, o.iana.toNat < 2 ^ 24

/-- The checks of R82. -/
abbrev ValidTrl (t : Trl) : Prop :=
  t.pad.length ≤ 3 ∧ (∀ b ∈ t.pad, b = 0xFF#8) ∧ t.padLen.toNat = t.pad.length ∧ t.nextHeader = 0x07#8 ∧
  t.authCode.length ≤ 16

/-- The checks of R83. -/
abbrev ValidS15 (f : S15) : Prop := ValidH15 f.hdr ∧ f.hdr.payloadLen.toNat = f.payload.length

/-- What R84 asks of a frame's trailer beside the trailer's own checks: it is there iff the header announces it, and its
pad makes header, payload and pad a multiple of 4. -/
abbrev TrailerFits (cfg : Config) (f : S20) : Prop :=
  (f.trailer.isSome ↔ f.hdr.auth = true ∧ f.hdr.sid ≠ 0#32) ∧
  ∀ t ∈ f.trailer, t.pad.length = padSize ((if f.hdr.pt = cfg.ptOem then 18 else 12) + f.payload.length)

/-- The checks of R84. -/
abbrev ValidS20 (cfg : Config) (f : S20) : Prop :=
  ValidH20 cfg f.hdr ∧ f.hdr.payloadLen.toNat = f.payload.length ∧ TrailerFits cfg f ∧
  ∀ t ∈ f.trailer, ValidTrl t

/-! ### Sound reports: what R39, R41, R85, R235, R262 to R267 and R270 say of everything the host is handed -/

/-- The values an unpack returns satisfy the checks of R85 (read with R181, R183); PAD_SIZE gives 0 to 3 (R162); CTX_READ
gives the registers as they stand (R203). -/
def SoundOutput (cfg : Config) (ctx : Context) : Output → Prop
  | .h15 h size => ValidH15 h ∧ size = hsize15 h
  | .h20 h size => (h.oem.isSome ↔ h.pt = cfg.ptOem) ∧ size = hsize20 cfg h
  | .trl t _ => t.pad.length ≤ 3 ∧ t.authCode.length ≤ 16
  | .s15 f => ValidS15 f
  | .s20 f => f.hdr.payloadLen.toNat = f.payload.length ∧ TrailerFits cfg f
  | .parsed15 p f => p = f.payload ∧ ValidS15 f
  | .parsed20 p f => p = f.payload ∧ f.hdr.payloadLen.toNat = f.payload.length ∧ TrailerFits cfg f
  | .context c => c = ctx ∧ c.live = true
  | .nat n => n ≤ 3
  | .unit | .bufAt .. | .u8At .. | .u16At .. | .u32At .. | .bytes _ => True

/-- The register an UnwrittenContext names. -/
def sessionReg (ctx : Context) : SessionReg → Option U32
  | .v15Sid => ctx.v15Sid
  | .v15Seq => ctx.v15Seq
  | .v20Sid => ctx.v20Sid
  | .v20Seq => ctx.v20Seq

/-- Each error's cause stands in the registers and the trace it left (R261 to R267). -/
def SoundError (ctx : Context) (trace : List Event) : Error → Prop
  | .bufferTooShort _ => trace = []
  | .collaboratorFailure .ac .failed => ∃ p, trace = [.ac p .fail]
  | .collaboratorFailure .ac .badResult => ∃ p c, trace = [.ac p (.ok c)] ∧ c.length ≠ 16
  | .collaboratorFailure .enc .failed => ∃ p, trace = [.enc p ctx.v20Keys .fail]
  | .collaboratorFailure .enc .badResult => False
  | .collaboratorFailure .trlgen .failed =>
    ∃ raw hb p, trace = [.enc raw ctx.v20Keys (.ok p), .trlgen hb p .fail]
  | .collaboratorFailure .trlgen .badResult =>
    ∃ raw hb p t, trace = [.enc raw ctx.v20Keys (.ok p), .trlgen hb p (.ok t)] ∧
      ¬ (ValidTrl t ∧ t.pad.length = padSize (hb.length + p.length))
  | .payloadTooLong .limit255 => trace = []
  | .payloadTooLong .limit65535 =>
    trace = [] ∨ ∃ raw p, trace = [.enc raw ctx.v20Keys (.ok p)] ∧ 65535 < p.length
  | .illegalTransition (.v20State c t) =>
    trace = [] ∧ c = ctx.v20State ∧ stateCode t ≠ stateCode c + 1
  | .illegalTransition .v15AuthTypeFixed => trace = [] ∧ ctx.v15Active = true
  | .unwrittenContext r => trace = [] ∧ sessionReg ctx r = none
  | .noContext => trace = [] ∧ ctx.live = false

/-- A trace holds the calls of R39 in the order of R235, the trailer's header carrying the post-encryption length. -/
def SoundTrace (trace : List Event) : Prop :=
  trace = [] ∨
  (∃ p a, trace = [.ac p a]) ∨
  (∃ raw k a, trace = [.enc raw k a]) ∨
  ∃ raw k hb p a, trace = [.enc raw k (.ok p), .trlgen hb p a] ∧ u16At hb (hb.length - 2) = BitVec.ofNat 16 p.length ∧
    p.length ≤ 65535

/-- How an operation that ended so may stand beside the state it left. -/
def SoundEnded (s : State) (trace : List Event) : Ended → Prop
  | .ok out => SoundOutput s.cfg s.ctx out
  | .err e => SoundError s.ctx trace e
  | .refused _ => trace = [] ∧ s.refusalMark = true

/-- THE INVARIANT: what the host was last handed is sound. -/
def State.Sound (s : State) : Prop :=
  ∀ r, s.report = some r → SoundTrace r.trace ∧ SoundEnded s r.trace r.ended

/-! ### Runs -/

/-- A run proves something about the block only while no request of it was refused (R270). -/
def State.clean (s : State) : Bool := !s.refusalMark

end Sys2Proof.Machine

namespace Sys2Proof

open Sys2Proof.Machine

/-! ### The types of a request's operands (30_encoding.md R90, 60_exceptions.md R272) -/

/-- A typed operand: its name, its width in bits, the number the host wrote. Every type of R11, and PROTO, the states and
a pad count, are the numbers of some width. -/
structure TypedOperand where
  name : OperandName
  width : Nat
  value : Nat

/-- The first operand that does not fit its width. -/
def firstOutOfType (fields : List TypedOperand) : Option OperandName :=
  (fields.find? fun f => decide (2 ^ f.width ≤ f.value)).map (·.name)

/-- The typed fields of an H15 (R80). -/
def typedH15 (r : RawH15) : List TypedOperand :=
  [⟨.authType, 8, r.authType⟩, ⟨.seq, 32, r.seq⟩, ⟨.sid, 32, r.sid⟩, ⟨.payloadLen, 8, r.payloadLen⟩]

/-- The typed fields of an `oem` value (R81, R233). -/
def typedOem : Option RawOem → List TypedOperand
  | none => []
  | some r => [⟨.iana, 32, r.iana⟩, ⟨.pid, 16, r.pid⟩]

/-- The typed fields of an H20 (R81). -/
def typedH20 (r : RawH20) : List TypedOperand :=
  [⟨.authType, 8, r.authType⟩, ⟨.enc, 1, r.enc⟩, ⟨.auth, 1, r.auth⟩, ⟨.pt, 6, r.pt⟩] ++ typedOem r.oem ++
  [⟨.sid, 32, r.sid⟩, ⟨.seq, 32, r.seq⟩, ⟨.payloadLen, 16, r.payloadLen⟩]

/-- The typed fields of a TRL (R82). -/
def typedTrl (r : RawTrl) : List TypedOperand := [⟨.padLen, 8, r.padLen⟩, ⟨.nextHeader, 8, r.nextHeader⟩]

/-- The typed fields of an optional TRL (R84). -/
def typedTrailer : Option RawTrl → List TypedOperand
  | none => []
  | some r => typedTrl r

/-- The typed operands of an operation's request, in order (log entry 10); none where the tag is unassigned or the operand
list is not of the operation's length and kinds (log entry 9). A length, an offset, a byte sequence and a key have no
width. -/
def typedOperands (tag : Byte) (ops : List Operand) : Option (List TypedOperand) :=
  match tag.toNat, ops with
  | 0x01, [.bytes _, .num _, .num v] => some [⟨.v, 8, v⟩]
  | 0x02, [.bytes _, .num _, .num v] => some [⟨.v, 16, v⟩]
  | 0x03, [.bytes _, .num _, .num v] => some [⟨.v, 32, v⟩]
  | 0x04, [.bytes _, .num _, .bytes _] => some []
  | 0x05, [.bytes _, .num _] => some []
  | 0x06, [.bytes _, .num _] => some []
  | 0x07, [.bytes _, .num _] => some []
  | 0x08, [.bytes _, .num _, .num _] => some []
  | 0x09, [.bytes _, .num _, .num _] => some []
  | 0x10, [.h15 r] => some (typedH15 r)
  | 0x11, [.bytes _] => some []
  | 0x12, [.h20 r] => some (typedH20 r)
  | 0x13, [.bytes _] => some []
  | 0x14, [.num _] => some []
  | 0x15, [.trl r] => some (typedTrl r)
  | 0x16, [.bytes _, .num _, .num p] => some [⟨.p, 2, p⟩]
  | 0x20, [.s15 r] => some (typedH15 r.hdr)
  | 0x21, [.bytes _] => some []
  | 0x22, [.s20 r] => some (typedH20 r.hdr ++ typedTrailer r.trailer)
  | 0x23, [.bytes _] => some []
  | 0x30, [.num proto] => some [⟨.proto, 1, proto⟩]
  | 0x31, [] => some []
  | 0x32, [] => some []
  | 0x33, [.num active, .num authType] => some [⟨.active, 1, active⟩, ⟨.authType, 8, authType⟩]
  | 0x34, [.num v] => some [⟨.v, 32, v⟩]
  | 0x35, [.num v] => some [⟨.v, 32, v⟩]
  | 0x36, [.num v] => some [⟨.v, 32, v⟩]
  | 0x37, [.num v] => some [⟨.v, 32, v⟩]
  | 0x38, [.num _] => some []
  | 0x39, [.num target] => some [⟨.target, 3, target⟩]
  | 0x3A, [] => some []
  | 0x40, [.bytes _] => some []
  | 0x41, [.bytes _, .num pt, .oem o] => some (⟨.pt, 6, pt⟩ :: typedOem o)
  | 0x42, [.bytes _, .num pt, .oem o] => some (⟨.pt, 6, pt⟩ :: typedOem o)
  | 0x43, [.bytes _] => some []
  | _, _ => none

/-! ### Which operations need what -/

/-- The families 40 to 44 and the wire formats: operations that need no context (R291). -/
def Instr.isPure : Instr → Bool
  | .putU8 .. | .putU16le .. | .putU32le .. | .putBytes .. => true
  | .getU8 .. | .getU16le .. | .getU32le .. | .getBytes .. | .getBytesUpto .. => true
  | .h15Pack _ | .h15Unpack _ | .h20Pack _ | .h20Unpack _ => true
  | .padSize _ | .trlPack _ | .trlUnpack .. => true
  | .s15Pack _ | .s15Unpack _ | .s20Pack _ | .s20Unpack _ => true
  | .wireW15n .. | .wireW15a .. | .wireW20 .. | .wireW20o .. | .wireWtrl .. => true
  | .ctxCreate _ | .ctxDestroy | .ctxRead => false
  | .ctxSetV15 .. | .ctxSetV15Sid _ | .ctxSetV15Seq _ => false
  | .ctxSetV20Sid _ | .ctxSetV20Seq _ | .ctxSetV20Keys _ => false
  | .smAdvance _ | .smReset => false
  | .gen15 _ | .gen20 .. | .build .. | .parse _ => false

/-- Family 46 (46_generator.md). -/
def Instr.isPort : Instr → Bool
  | .gen15 _ | .gen20 .. | .build .. | .parse _ => true
  | _ => false

/-- The operations that may call a collaborator (R39). -/
def Instr.mayCall : Instr → Bool
  | .gen15 _ | .gen20 .. | .build .. => true
  | _ => false

/-- The operations that read or write a buffer through MemRead and MemWrite (R260, row 1); a wire row reads its own bytes
(log entry 7). -/
def Instr.accessesBuffer : Instr → Bool
  | .putU8 .. | .putU16le .. | .putU32le .. | .putBytes .. => true
  | .getU8 .. | .getU16le .. | .getU32le .. | .getBytes .. | .getBytesUpto .. => true
  | .h15Unpack _ | .h20Unpack _ | .trlUnpack .. | .s15Unpack _ | .s20Unpack _ | .parse _ => true
  | .wireW15n .. | .wireW15a .. | .wireW20 .. | .wireW20o .. | .wireWtrl .. => true
  | _ => false

/-- The operations that check a transition (R260, row 4). -/
def Instr.checksTransition : Instr → Bool
  | .smAdvance _ | .ctxSetV15 .. => true
  | _ => false

/-- The operations that need a context (R260, row 6). -/
def Instr.needsContext : Instr → Bool
  | .ctxCreate _ => false
  | i => !i.isPure

/-- The table of R260: the code of an error's kind, and that `i` is among the operations that raise it. -/
def ErrorRow (i : Instr) (e : Error) : Prop :=
  match e with
  | .bufferTooShort _ => e.code = 1#8 ∧ i.accessesBuffer = true
  | .collaboratorFailure .. => e.code = 2#8 ∧ i.mayCall = true
  | .payloadTooLong _ => e.code = 3#8 ∧ i.mayCall = true
  | .illegalTransition _ => e.code = 4#8 ∧ i.checksTransition = true
  | .unwrittenContext _ => e.code = 5#8 ∧ i.mayCall = true
  | .noContext => e.code = 6#8 ∧ i.needsContext = true

end Sys2Proof
end

