-- ==== Sys2Proof/Certificates/Slice0/Obligations.lean ====
section
/-! DEFINITION. The statements of slice 0, in the order of the spec's files. -/

open Sys2Proof Sys2Proof.Machine

/-! ### Family 40: the codec -/

/-- R101, R102, R103: PUT_U8, PUT_U16LE and PUT_U32LE write their value least significant byte first, keep every other
byte, and return the next write offset; or they write nothing at all. -/
def Obligations.PutIntegersLowByteFirst : Prop :=
  ∀ (buf : Bytes) (off : Nat) (v8 : Byte) (v16 : U16) (v32 : U32) (s : State),
    (if off + 1 ≤ buf.length then ReportsOk (.putU8 buf off v8) s (.bufAt (buf.set off v8) (off + 1))
     else ReportsErr (.putU8 buf off v8) s (.bufferTooShort .codec)) ∧
    (if off + 2 ≤ buf.length then
      ReportsOk (.putU16le buf off v16) s
        (.bufAt ((buf.set off (BitVec.ofNat 8 v16.toNat)).set (off + 1) (BitVec.ofNat 8 (v16.toNat / 2 ^ 8))) (off + 2))
     else ReportsErr (.putU16le buf off v16) s (.bufferTooShort .codec)) ∧
    (if off + 4 ≤ buf.length then
      ReportsOk (.putU32le buf off v32) s
        (.bufAt ((((buf.set off (BitVec.ofNat 8 v32.toNat)).set (off + 1) (BitVec.ofNat 8 (v32.toNat / 2 ^ 8))).set
          (off + 2) (BitVec.ofNat 8 (v32.toNat / 2 ^ 16))).set (off + 3) (BitVec.ofNat 8 (v32.toNat / 2 ^ 24)))
          (off + 4))
     else ReportsErr (.putU32le buf off v32) s (.bufferTooShort .codec))

/-- R104: PUT_BYTES copies the range in order and leaves every other byte and the length alone. -/
def Obligations.PutBytesCopiesRange : Prop :=
  ∀ (buf : Bytes) (off : Nat) (bs : Bytes) (s : State),
    if off + bs.length ≤ buf.length then
      ∃ out, ReportsOk (.putBytes buf off bs) s (.bufAt out (off + bs.length)) ∧ out.length = buf.length ∧
        ∀ j, out[j]? = if off ≤ j ∧ j < off + bs.length then bs[j - off]? else buf[j]?
    else ReportsErr (.putBytes buf off bs) s (.bufferTooShort .codec)

/-- R105, R106, R107: GET_U8, GET_U16LE and GET_U32LE return `b[0] | b[1]<<8 | ...` and the next read offset, or fail
without a partial read. -/
def Obligations.GetIntegersLowByteFirst : Prop :=
  ∀ (buf : Bytes) (off : Nat) (s : State),
    (if off + 1 ≤ buf.length then ReportsOk (.getU8 buf off) s (.u8At (buf.getD off 0#8) (off + 1))
     else ReportsErr (.getU8 buf off) s (.bufferTooShort .codec)) ∧
    (if off + 2 ≤ buf.length then
      ReportsOk (.getU16le buf off) s
        (.u16At ((buf.getD off 0#8).setWidth 16 ||| (buf.getD (off + 1) 0#8).setWidth 16 <<< 8) (off + 2))
     else ReportsErr (.getU16le buf off) s (.bufferTooShort .codec)) ∧
    (if off + 4 ≤ buf.length then
      ReportsOk (.getU32le buf off) s
        (.u32At ((buf.getD off 0#8).setWidth 32 ||| (buf.getD (off + 1) 0#8).setWidth 32 <<< 8 |||
          (buf.getD (off + 2) 0#8).setWidth 32 <<< 16 ||| (buf.getD (off + 3) 0#8).setWidth 32 <<< 24) (off + 4))
     else ReportsErr (.getU32le buf off) s (.bufferTooShort .codec))

/-- R108, R109: GET_BYTES returns exactly the bytes asked for, in order, or fails; GET_BYTES_UPTO returns as many of them
as remain, and fails only beyond the end. -/
def Obligations.GetBytesStrictAndTolerant : Prop :=
  ∀ (buf : Bytes) (off n : Nat) (s : State),
    (if off + n ≤ buf.length then
      ∃ b, ReportsOk (.getBytes buf off n) s (.bufAt b (off + n)) ∧ b.length = n ∧ ∀ j, j < n → b[j]? = buf[off + j]?
     else ReportsErr (.getBytes buf off n) s (.bufferTooShort .codec)) ∧
    (if off ≤ buf.length then
      ∃ b, ReportsOk (.getBytesUpto buf off n) s (.bufAt b (off + b.length)) ∧ b.length = min n (buf.length - off) ∧
        ∀ j, j < b.length → b[j]? = buf[off + j]?
     else ReportsErr (.getBytesUpto buf off n) s (.bufferTooShort .codec))

/-- R111: what a PUT wrote, the GET of the same width reads back, with the same next offset. -/
def Obligations.CodecPutThenGet : Prop :=
  ∀ (buf : Bytes) (off : Nat) (s : State),
    (∀ v : Byte, off + 1 ≤ buf.length → ∃ out, ReportsOk (.putU8 buf off v) s (.bufAt out (off + 1)) ∧
      ReportsOk (.getU8 out off) s (.u8At v (off + 1))) ∧
    (∀ v : U16, off + 2 ≤ buf.length → ∃ out, ReportsOk (.putU16le buf off v) s (.bufAt out (off + 2)) ∧
      ReportsOk (.getU16le out off) s (.u16At v (off + 2))) ∧
    (∀ v : U32, off + 4 ≤ buf.length → ∃ out, ReportsOk (.putU32le buf off v) s (.bufAt out (off + 4)) ∧
      ReportsOk (.getU32le out off) s (.u32At v (off + 4))) ∧
    (∀ bs : Bytes, off + bs.length ≤ buf.length →
      ∃ out, ReportsOk (.putBytes buf off bs) s (.bufAt out (off + bs.length)) ∧
        ReportsOk (.getBytes out off bs.length) s (.bufAt bs (off + bs.length)))

/-! ### Families 41 and 42: the headers -/

/-- R120: H15_PACK emits the W15N or W15A layout of a well-formed header and refuses any other by its first broken
check. -/
def Obligations.H15PackEmitsLayout : Prop :=
  ∀ (h : H15) (s : State),
    (ValidH15 h → ReportsOk (.h15Pack h) s
      (.bytes ([h.authType] ++ bytesOfNat 4 h.seq.toNat ++ bytesOfNat 4 h.sid.toNat ++ h.authCode.getD [] ++
        [h.payloadLen]))) ∧
    (¬ (h.authCode = none ↔ h.authType = 0x00#8) → Refuses (.h15Pack h) s (.illFormed .h15AuthcodePresence)) ∧
    (∀ c, h.authType ≠ 0x00#8 → h.authCode = some c → c.length ≠ 16 →
      Refuses (.h15Pack h) s (.illFormed .h15AuthcodeLen))

/-- R121: H15_UNPACK reads the layout byte 0 selects, or fails on a short buffer. -/
def Obligations.H15UnpackReadsLayout : Prop :=
  ∀ (buf : Bytes) (s : State),
    if buf.length < 10 then ReportsErr (.h15Unpack buf) s (.bufferTooShort .header)
    else if buf.getD 0 0#8 = 0x00#8 then
      ReportsOk (.h15Unpack buf) s
        (.h15 { authType := 0x00#8, seq := u32At buf 1, sid := u32At buf 5, authCode := none,
                payloadLen := buf.getD 9 0#8 } 10)
    else if buf.length < 26 then ReportsErr (.h15Unpack buf) s (.bufferTooShort .header)
    else
      ReportsOk (.h15Unpack buf) s
        (.h15 { authType := buf.getD 0 0#8, seq := u32At buf 1, sid := u32At buf 5, authCode := some (bytesAt buf 9 16),
                payloadLen := buf.getD 25 0#8 } 26)

/-- R140: H20_PACK emits the W20 or W20O layout of a well-formed header and refuses any other by its first broken
check. -/
def Obligations.H20PackEmitsLayout : Prop :=
  ∀ (h : H20) (s : State),
    if h.authType ≠ 0x06#8 then Refuses (.h20Pack h) s (.illFormed .h20AuthTypeFixed)
    else match h.oem with
      | none =>
        if h.pt = s.cfg.ptOem then Refuses (.h20Pack h) s (.illFormed .h20OemPresence)
        else ReportsOk (.h20Pack h) s
          (.bytes ([0x06#8, BitVec.ofNat 8 (128 * h.enc.toNat + 64 * h.auth.toNat + h.pt.toNat)] ++
            bytesOfNat 4 h.sid.toNat ++ bytesOfNat 4 h.seq.toNat ++ bytesOfNat 2 h.payloadLen.toNat))
      | some o =>
        if h.pt ≠ s.cfg.ptOem then Refuses (.h20Pack h) s (.illFormed .h20OemPresence)
        else if 2 ^ 24 ≤ o.iana.toNat then Refuses (.h20Pack h) s (.illFormed .h20IanaReserved)
        else ReportsOk (.h20Pack h) s
          (.bytes ([0x06#8, BitVec.ofNat 8 (128 * h.enc.toNat + 64 * h.auth.toNat + h.pt.toNat)] ++
            bytesOfNat 3 o.iana.toNat ++ [0x00#8] ++ bytesOfNat 2 o.pid.toNat ++
            bytesOfNat 4 h.sid.toNat ++ bytesOfNat 4 h.seq.toNat ++ bytesOfNat 2 h.payloadLen.toNat))

/-- R141: H20_UNPACK reads the layout the payload type selects and keeps every byte as read, or fails on a short
buffer. -/
def Obligations.H20UnpackReadsLayout : Prop :=
  ∀ (buf : Bytes) (s : State),
    let b1 := buf.getD 1 0#8
    let pt := b1.extractLsb' 0 6
    if buf.length < 12 then ReportsErr (.h20Unpack buf) s (.bufferTooShort .header)
    else if pt ≠ s.cfg.ptOem then
      ReportsOk (.h20Unpack buf) s
        (.h20 { authType := buf.getD 0 0#8, enc := b1.getLsbD 7, auth := b1.getLsbD 6, pt := pt, oem := none,
                sid := u32At buf 2, seq := u32At buf 6, payloadLen := u16At buf 10 } 12)
    else if buf.length < 18 then ReportsErr (.h20Unpack buf) s (.bufferTooShort .header)
    else
      ReportsOk (.h20Unpack buf) s
        (.h20 { authType := buf.getD 0 0#8, enc := b1.getLsbD 7, auth := b1.getLsbD 6, pt := pt,
                oem := some { iana := u32At buf 2, pid := u16At buf 6 },
                sid := u32At buf 8, seq := u32At buf 12, payloadLen := u16At buf 16 } 18)

/-- R122, R123, R142, R143: a packed header is 10 or 26 (v1.5), 12 or 18 (v2.0) bytes long and unpacks to itself,
whatever follows it. -/
def Obligations.HeaderRoundTrip : Prop :=
  ∀ (tail : Bytes) (s : State),
    (∀ h : H15, ValidH15 h →
      ∃ b, ReportsOk (.h15Pack h) s (.bytes b) ∧ b.length = (if h.authType = 0x00#8 then 10 else 26) ∧
        ReportsOk (.h15Unpack (b ++ tail)) s (.h15 h b.length)) ∧
    (∀ h : H20, ValidH20 s.cfg h →
      ∃ b, ReportsOk (.h20Pack h) s (.bytes b) ∧ b.length = (if h.pt = s.cfg.ptOem then 18 else 12) ∧
        ReportsOk (.h20Unpack (b ++ tail)) s (.h20 h b.length))

/-! ### Family 43: the trailer -/

/-- R160, R161, R162: PAD_SIZE gives the smallest pad that makes the count a multiple of 4. -/
def Obligations.PadSizeIsSmallestAligning : Prop :=
  ∀ (l : Nat) (s : State),
    ∃ p, ReportsOk (.padSize l) s (.nat p) ∧ p = (4 - l % 4) % 4 ∧ (l + p) % 4 = 0 ∧ p ≤ 3 ∧
      ∀ q, (l + q) % 4 = 0 → p ≤ q

/-- R164: TRL_PACK concatenates the fields of a well-formed trailer and refuses any other by its first broken check. -/
def Obligations.TrlPackEmitsLayout : Prop :=
  ∀ (t : Trl) (s : State),
    if 3 < t.pad.length then Refuses (.trlPack t) s (.illFormed .trlPadCount)
    else if ∃ b ∈ t.pad, b ≠ 0xFF#8 then Refuses (.trlPack t) s (.illFormed .trlPadValue)
    else if t.padLen.toNat ≠ t.pad.length then Refuses (.trlPack t) s (.illFormed .trlPadLen)
    else if t.nextHeader ≠ 0x07#8 then Refuses (.trlPack t) s (.illFormed .trlNextHeader)
    else if 16 < t.authCode.length then Refuses (.trlPack t) s (.illFormed .trlAuthcodeMax)
    else ReportsOk (.trlPack t) s
      (.bytes (List.replicate t.pad.length 0xFF#8 ++ [BitVec.ofNat 8 t.pad.length, 0x07#8] ++ t.authCode))

/-- R166: TRL_UNPACK reads pad, pad length and next header strictly and at most 16 bytes of auth code tolerantly. -/
def Obligations.TrlUnpackReadsLayout : Prop :=
  ∀ (buf : Bytes) (off p : Nat) (s : State),
    if 3 < p then Refuses (.trlUnpack buf off p) s (.operandRange .p)
    else if buf.length < off + p + 2 then ReportsErr (.trlUnpack buf off p) s (.bufferTooShort .trailer)
    else
      ReportsOk (.trlUnpack buf off p) s
        (.trl { pad := bytesAt buf off p, padLen := buf.getD (off + p) 0#8, nextHeader := buf.getD (off + p + 1) 0#8,
                authCode := bytesAt buf (off + p + 2) 16 }
          (off + p + 2 + min 16 (buf.length - (off + p + 2))))

/-- R168: a packed trailer, wherever it stands at the end of a buffer, unpacks to itself. -/
def Obligations.TrlRoundTrip : Prop :=
  ∀ (t : Trl) (pre : Bytes) (s : State), ValidTrl t →
    ∃ b, ReportsOk (.trlPack t) s (.bytes b) ∧
      ReportsOk (.trlUnpack (pre ++ b) pre.length t.pad.length) s
        (.trl t (pre.length + (t.pad.length + 2 + t.authCode.length)))

/-! ### Family 44: frames -/

/-- R180: S15_PACK emits the packed header and the payload, and refuses an ill-formed frame by its first broken
check. -/
def Obligations.S15PackConcatenates : Prop :=
  ∀ (f : S15) (s : State),
    (ValidS15 f → ∃ hb, ReportsOk (.h15Pack f.hdr) s (.bytes hb) ∧ ReportsOk (.s15Pack f) s (.bytes (hb ++ f.payload))) ∧
    (ValidH15 f.hdr → f.hdr.payloadLen.toNat ≠ f.payload.length → Refuses (.s15Pack f) s (.illFormed .s15Len)) ∧
    (∀ c, Refuses (.h15Pack f.hdr) s (.illFormed c) → Refuses (.s15Pack f) s (.illFormed c))

/-- R181: S15_UNPACK fails on a header that does not fit, then on a payload that does not fit, and otherwise returns the
header and the exact-length slice after it. -/
def Obligations.S15UnpackSplits : Prop :=
  ∀ (buf : Bytes) (s : State),
    if buf.length < size15At buf then ReportsErr (.s15Unpack buf) s (.bufferTooShort .header)
    else if buf.length < size15At buf + (h15At buf).payloadLen.toNat then
      ReportsErr (.s15Unpack buf) s (.bufferTooShort .payload)
    else ReportsOk (.s15Unpack buf) s (.s15 (s15At buf))

/-- R182: S20_PACK emits header, payload and, when there is one, trailer, and refuses an ill-formed frame by its first
broken check: the header's by its own name, a broken trailer by S20.trailer (R84, R271). -/
def Obligations.S20PackConcatenates : Prop :=
  ∀ (f : S20) (s : State),
    (ValidS20 s.cfg f → ∃ hb, ReportsOk (.h20Pack f.hdr) s (.bytes hb) ∧
      (f.trailer = none → ReportsOk (.s20Pack f) s (.bytes (hb ++ f.payload))) ∧
      (∀ t, f.trailer = some t → ∃ tb, ReportsOk (.trlPack t) s (.bytes tb) ∧
        ReportsOk (.s20Pack f) s (.bytes (hb ++ f.payload ++ tb)))) ∧
    (∀ c, Refuses (.h20Pack f.hdr) s (.illFormed c) → Refuses (.s20Pack f) s (.illFormed c)) ∧
    (ValidH20 s.cfg f.hdr →
      if f.hdr.payloadLen.toNat ≠ f.payload.length then Refuses (.s20Pack f) s (.illFormed .s20Len)
      else if ¬ (f.trailer.isSome ↔ f.hdr.auth = true ∧ f.hdr.sid ≠ 0#32) then
        Refuses (.s20Pack f) s (.illFormed .s20TrailerPresence)
      else ∀ t, f.trailer = some t →
        if ¬ ValidTrl t then Refuses (.s20Pack f) s (.illFormed .s20Trailer)
        else ¬ TrailerFits s.cfg f → Refuses (.s20Pack f) s (.illFormed .s20PadAlign))

/-- R183: S20_UNPACK fails in the order header, payload, trailer, and otherwise returns header, payload and, iff the
header announces it, the trailer read with the pad size of the frame. -/
def Obligations.S20UnpackSplits : Prop :=
  ∀ (buf : Bytes) (s : State),
    if buf.length < size20At s.cfg buf then ReportsErr (.s20Unpack buf) s (.bufferTooShort .header)
    else if buf.length < end20At s.cfg buf then ReportsErr (.s20Unpack buf) s (.bufferTooShort .payload)
    else if (h20At s.cfg buf).auth = true ∧ (h20At s.cfg buf).sid ≠ 0#32 ∧
        buf.length < end20At s.cfg buf + (4 - end20At s.cfg buf % 4) % 4 + 2 then
      ReportsErr (.s20Unpack buf) s (.bufferTooShort .trailer)
    else ReportsOk (.s20Unpack buf) s (.s20 (s20At s.cfg buf))

/-- R185: every well-formed frame of either generation unpacks to itself after packing. -/
def Obligations.FrameRoundTrip : Prop :=
  ∀ s : State,
    (∀ f : S15, ValidS15 f → ∃ b, ReportsOk (.s15Pack f) s (.bytes b) ∧ ReportsOk (.s15Unpack b) s (.s15 f)) ∧
    (∀ f : S20, ValidS20 s.cfg f → ∃ b, ReportsOk (.s20Pack f) s (.bytes b) ∧ ReportsOk (.s20Unpack b) s (.s20 f))

/-- R184: a trailer is unpacked iff the header has auth = 1 and a nonzero session ID, and a packed frame is longer than
header and payload iff it does. -/
def Obligations.TrailerPresenceLaw : Prop :=
  (∀ (buf : Bytes) (s : State) (f : S20), ReportsOk (.s20Unpack buf) s (.s20 f) →
    (f.trailer.isSome ↔ f.hdr.auth = true ∧ f.hdr.sid ≠ 0#32)) ∧
  (∀ (f : S20) (s : State) (b : Bytes), ReportsOk (.s20Pack f) s (.bytes b) →
    ((if f.hdr.pt = s.cfg.ptOem then 18 else 12) + f.payload.length < b.length ↔
      f.hdr.auth = true ∧ f.hdr.sid ≠ 0#32))

/-- R186: bytes after a whole v1.5 frame, or after a v2.0 frame without a trailer, change nothing of what is unpacked. -/
def Obligations.ExcessBytesIgnored : Prop :=
  ∀ (buf extra : Bytes) (s : State),
    (∀ f, ReportsOk (.s15Unpack buf) s (.s15 f) → ReportsOk (.s15Unpack (buf ++ extra)) s (.s15 f)) ∧
    (∀ f, ReportsOk (.s20Unpack buf) s (.s20 f) →
      (f.trailer = none ∨ ∃ t, f.trailer = some t ∧ t.authCode.length = 16) →
      ReportsOk (.s20Unpack (buf ++ extra)) s (.s20 f))

/-! ### Family 45: the context and its state machine -/

/-- R201, R202: CTX_CREATE gives every register its value, on a live context too; CTX_DESTROY ends a live context and
changes nothing else that can be read, and without one it is NoContext. -/
def Obligations.ContextCreatedAndDestroyed : Prop :=
  ∀ (p : Proto) (s : State),
    WritesCtx (.ctxCreate p) s
      { live := true, proto := p, v15Active := false, v15AuthType := 0x00#8, v15Sid := none, v15Seq := none,
        v20State := .preSession, v20Sid := none, v20Seq := none, v20Keys := none } ∧
    (if s.ctx.live then
      ∃ c n, c.live = false ∧
        exec .ctxDestroy s = .next { s with ctx := c, draws := n, report := some { ended := .ok .unit, trace := [] } }
     else ReportsErr .ctxDestroy s .noContext)

/-- R203: CTX_READ returns the ten registers, unwritten ones as unwritten; without a context it is NoContext. -/
def Obligations.CtxReadShowsRegisters : Prop :=
  ∀ s : State,
    if s.ctx.live then ReportsOk .ctxRead s (.context s.ctx) else ReportsErr .ctxRead s .noContext

/-- R204: CTX_SET_V15 writes the flag and the auth type, but never another auth type into an active session that stays
active. -/
def Obligations.CtxSetV15KeepsActiveAuthType : Prop :=
  ∀ (active : Bool) (authType : Byte) (s : State),
    if s.ctx.live = false then ReportsErr (.ctxSetV15 active authType) s .noContext
    else if s.ctx.v15Active = true ∧ active = true ∧ authType ≠ s.ctx.v15AuthType then
      ReportsErr (.ctxSetV15 active authType) s (.illegalTransition .v15AuthTypeFixed)
    else WritesCtx (.ctxSetV15 active authType) s { s.ctx with v15Active := active, v15AuthType := authType }

/-- R205, R206, R207, R208, R209: each write sets its one register, with its written bit, on a live context. -/
def Obligations.SessionRegisterWrites : Prop :=
  ∀ (v : U32) (k : Key) (s : State),
    if s.ctx.live then
      WritesCtx (.ctxSetV15Sid v) s { s.ctx with v15Sid := some v } ∧
      WritesCtx (.ctxSetV15Seq v) s { s.ctx with v15Seq := some v } ∧
      WritesCtx (.ctxSetV20Sid v) s { s.ctx with v20Sid := some v } ∧
      WritesCtx (.ctxSetV20Seq v) s { s.ctx with v20Seq := some v } ∧
      WritesCtx (.ctxSetV20Keys k) s { s.ctx with v20Keys := some k }
    else
      ReportsErr (.ctxSetV15Sid v) s .noContext ∧ ReportsErr (.ctxSetV15Seq v) s .noContext ∧
      ReportsErr (.ctxSetV20Sid v) s .noContext ∧ ReportsErr (.ctxSetV20Seq v) s .noContext ∧
      ReportsErr (.ctxSetV20Keys k) s .noContext

/-- R210: SM_ADVANCE moves to the state whose code is one more than the current one's, and to no other. -/
def Obligations.SmAdvanceToSuccessorOnly : Prop :=
  ∀ (target : V20State) (s : State),
    if s.ctx.live = false then ReportsErr (.smAdvance target) s .noContext
    else if stateCode target = stateCode s.ctx.v20State + 1 then
      WritesCtx (.smAdvance target) s { s.ctx with v20State := target }
    else ReportsErr (.smAdvance target) s (.illegalTransition (.v20State s.ctx.v20State target))

/-- R211: SM_RESET returns to PreSession from every state and discards the v2.0 session, keeping PROTO and the v1.5
registers. -/
def Obligations.SmResetDiscardsHandshake : Prop :=
  ∀ s : State,
    if s.ctx.live then
      WritesCtx .smReset s { s.ctx with v20State := .preSession, v20Sid := none, v20Seq := none, v20Keys := none }
    else ReportsErr .smReset s .noContext

/-- R212: V20_STATE, on a context that stays live, moves only along the transition table: by SM_ADVANCE to the successor,
by SM_RESET or CTX_CREATE to PreSession. -/
def Obligations.StateMovesOnlyByTable : Prop :=
  ∀ (i : Instr) (s t : State), exec i s = .next t → t.ctx.live = true → t.ctx.v20State ≠ s.ctx.v20State →
    ((∃ target, i = .smAdvance target ∧ t.ctx.v20State = target) ∧
      stateCode t.ctx.v20State = stateCode s.ctx.v20State + 1) ∨
    (t.ctx.v20State = .preSession ∧ (i = .smReset ∨ ∃ p, i = .ctxCreate p))

/-- R26, R28: while a context lives, PROTO never changes but by CTX_CREATE, and the auth type of an active v1.5 session
that stays active never changes but by CTX_CREATE. -/
def Obligations.ProtoAndActiveAuthTypeFixed : Prop :=
  ∀ (i : Instr) (s t : State), exec i s = .next t → t.ctx.live = true → (∀ p, i ≠ .ctxCreate p) →
    t.ctx.proto = s.ctx.proto ∧
    (s.ctx.v15Active = true → t.ctx.v15Active = true → t.ctx.v15AuthType = s.ctx.v15AuthType)

/-! ### Family 46: the generator and the ports -/

/-- R231: GEN15, case by case: the errors in their order, the authenticated frame over AC's code, and the
unauthenticated frame with sequence 0 and session ID 0. AC's answer, and the port it is taken from, are the model's form
of an input (log entry 2). -/
def Obligations.Gen15BuildsFrame : Prop :=
  ∀ (raw : Bytes) (s : State),
    if s.ctx.live = false then ReportsErr (.gen15 raw) s .noContext
    else if 255 < raw.length then ReportsErr (.gen15 raw) s (.payloadTooLong .limit255)
    else if s.ctx.v15Active = false ∨ s.ctx.v15AuthType = 0x00#8 then
      ReportsOk (.gen15 raw) s (.bytes (List.replicate 9 0x00#8 ++ [BitVec.ofNat 8 raw.length] ++ raw))
    else match s.ctx.v15Sid, s.ctx.v15Seq with
      | none, _ => ReportsErr (.gen15 raw) s (.unwrittenContext .v15Sid)
      | some _, none => ReportsErr (.gen15 raw) s (.unwrittenContext .v15Seq)
      | some sid, some seq =>
        exec (.gen15 raw) s = .next { s.afterAc with report := some {
          ended := match s.acAnswer with
            | .fail => .err (.collaboratorFailure .ac .failed)
            | .ok code =>
              if code.length = 16 then
                .ok (.bytes ([s.ctx.v15AuthType] ++ bytesOfNat 4 seq.toNat ++ bytesOfNat 4 sid.toNat ++ code ++
                  [BitVec.ofNat 8 raw.length] ++ raw))
              else .err (.collaboratorFailure .ac .badResult),
          trace := [.ac raw s.acAnswer] } }

/-- R242: in every state but Active, GEN20 with a well-shaped `oem` operand builds an unprotected frame with session ID 0
and sequence 0 and no trailer; for a non-OEM payload type its header is these 12 bytes. -/
def Obligations.Gen20UnprotectedBeforeActive : Prop :=
  ∀ (raw : Bytes) (pt : UInt6) (oem : Option Oem) (s : State),
    s.ctx.live = true → s.ctx.v20State ≠ .active → OemFits s.cfg pt oem →
    if raw.length ≤ 65535 then
      ∃ hb, ReportsOk (.h20Pack (headerOver false pt oem 0#32 0#32 raw)) s (.bytes hb) ∧
        ReportsOk (.gen20 raw pt oem) s (.bytes (hb ++ raw)) ∧
        (pt ≠ s.cfg.ptOem → hb = [0x06#8, pt.setWidth 8] ++ List.replicate 8 0x00#8 ++ bytesOfNat 2 raw.length)
    else ReportsErr (.gen20 raw pt oem) s (.payloadTooLong .limit65535)

/-- R234: in Active with a nonzero session ID, GEN20 calls ENC, then TRLGEN over the packed header and the payload as it
goes on the wire, and appends the trailer TRLGEN returns iff it is well-formed and of the frame's pad count. -/
def Obligations.Gen20ProtectsInActive : Prop :=
  ∀ (raw p : Bytes) (pt : UInt6) (oem : Option Oem) (sid seq : U32) (s : State) (t : Trl),
    s.ctx.live = true → s.ctx.v20State = .active → s.ctx.v20Sid = some sid → s.ctx.v20Seq = some seq → sid ≠ 0#32 →
    OemFits s.cfg pt oem → s.encAnswer = .ok p → p.length ≤ 65535 → s.afterEnc.trlgenAnswer = .ok t →
    ∃ hb tb, ReportsOk (.h20Pack (headerOver true pt oem sid seq p)) s (.bytes hb) ∧
      exec (.gen20 raw pt oem) s = .next { s.afterEnc.afterTrlgen with report := some {
        ended := if ValidTrl t ∧ t.pad.length = padSize (hb.length + p.length)
          then .ok (.bytes (hb ++ p ++ tb)) else .err (.collaboratorFailure .trlgen .badResult),
        trace := [.enc raw s.ctx.v20Keys (.ok p), .trlgen hb p (.ok t)] } } ∧
      tb = t.pad ++ [t.padLen, t.nextHeader] ++ t.authCode

/-- R233: in Active with session ID 0 the payload is encrypted and both flags are set, but no trailer is built and
TRLGEN is not called. -/
def Obligations.Gen20NoTrailerForSessionZero : Prop :=
  ∀ (raw p : Bytes) (pt : UInt6) (oem : Option Oem) (seq : U32) (s : State),
    s.ctx.live = true → s.ctx.v20State = .active → s.ctx.v20Sid = some 0#32 → s.ctx.v20Seq = some seq →
    OemFits s.cfg pt oem → s.encAnswer = .ok p → p.length ≤ 65535 →
    ∃ hb, ReportsOk (.h20Pack (headerOver true pt oem 0#32 seq p)) s (.bytes hb) ∧
      exec (.gen20 raw pt oem) s = .next { s.afterEnc with report := some {
        ended := .ok (.bytes (hb ++ p)), trace := [.enc raw s.ctx.v20Keys (.ok p)] } }

/-- R268: GEN20 reports OperandShape before NoContext, then the unwritten registers, then ENC's failure, then a payload
too long, then TRLGEN's failure, each keeping the trace of the calls made before it. -/
def Obligations.Gen20ReportingOrder : Prop :=
  ∀ (raw : Bytes) (pt : UInt6) (oem : Option Oem) (s : State),
    if ¬ (oem.isSome ↔ pt = s.cfg.ptOem) then Refuses (.gen20 raw pt oem) s (.operandShape .oem)
    else if ∃ o ∈ oem, 2 ^ 24 ≤ o.iana.toNat then Refuses (.gen20 raw pt oem) s (.operandShape .iana)
    else if s.ctx.live = false then ReportsErr (.gen20 raw pt oem) s .noContext
      else if s.ctx.v20State = .active then
        match s.ctx.v20Sid, s.ctx.v20Seq, s.encAnswer with
        | none, _, _ => ReportsErr (.gen20 raw pt oem) s (.unwrittenContext .v20Sid)
        | some _, none, _ => ReportsErr (.gen20 raw pt oem) s (.unwrittenContext .v20Seq)
        | some _, some _, .fail =>
          exec (.gen20 raw pt oem) s = .next { s.afterEnc with report := some {
            ended := .err (.collaboratorFailure .enc .failed), trace := [.enc raw s.ctx.v20Keys .fail] } }
        | some sid, some seq, .ok p =>
          (65535 < p.length → exec (.gen20 raw pt oem) s = .next { s.afterEnc with report := some {
            ended := .err (.payloadTooLong .limit65535), trace := [.enc raw s.ctx.v20Keys (.ok p)] } }) ∧
          (p.length ≤ 65535 → sid ≠ 0#32 → s.afterEnc.trlgenAnswer = .fail →
            ∃ hb, ReportsOk (.h20Pack (headerOver true pt oem sid seq p)) s (.bytes hb) ∧
              exec (.gen20 raw pt oem) s = .next { s.afterEnc.afterTrlgen with report := some {
                ended := .err (.collaboratorFailure .trlgen .failed),
                trace := [.enc raw s.ctx.v20Keys (.ok p), .trlgen hb p .fail] } })
      else 65535 < raw.length → ReportsErr (.gen20 raw pt oem) s (.payloadTooLong .limit65535)

/-- R238: BUILD checks the context first and then is GEN15, whatever its other operands, or GEN20; so it builds the
unauthenticated v1.5 frame of a session that is not active, and the unprotected v2.0 frame of a handshake. -/
def Obligations.BuildDispatchesOnProto : Prop :=
  ∀ (raw : Bytes) (pt : UInt6) (oem : Option Oem) (s : State),
    if s.ctx.live = false then ReportsErr (.build raw pt oem) s .noContext
    else match s.ctx.proto with
      | .v15 => exec (.build raw pt oem) s = exec (.gen15 raw) s ∧
        (s.ctx.v15Active = false → raw.length ≤ 255 →
          ReportsOk (.build raw pt oem) s (.bytes (List.replicate 9 0x00#8 ++ [BitVec.ofNat 8 raw.length] ++ raw)))
      | .v20 => exec (.build raw pt oem) s = exec (.gen20 raw pt oem) s ∧
        (s.ctx.v20State ≠ .active → OemFits s.cfg pt oem → raw.length ≤ 65535 →
          ∃ hb, ReportsOk (.h20Pack (headerOver false pt oem 0#32 0#32 raw)) s (.bytes hb) ∧
            ReportsOk (.build raw pt oem) s (.bytes (hb ++ raw)))

/-- R239: PARSE checks the context, then reads the frame with the generation of PROTO and returns payload and frame; on a
frame that is not whole it fails as that generation's unpack fails. -/
def Obligations.ParseDispatchesOnProto : Prop :=
  ∀ (frame : Bytes) (s : State),
    if s.ctx.live = false then ReportsErr (.parse frame) s .noContext
    else match s.ctx.proto with
      | .v15 =>
        if Whole15 frame then ReportsOk (.parse frame) s (.parsed15 (s15At frame).payload (s15At frame))
        else ∃ tag, ReportsErr (.s15Unpack frame) s (.bufferTooShort tag) ∧
          ReportsErr (.parse frame) s (.bufferTooShort tag)
      | .v20 =>
        if Whole20 s.cfg frame then
          ReportsOk (.parse frame) s (.parsed20 (s20At s.cfg frame).payload (s20At s.cfg frame))
        else ∃ tag, ReportsErr (.s20Unpack frame) s (.bufferTooShort tag) ∧
          ReportsErr (.parse frame) s (.bufferTooShort tag)

/-- R241: what BUILD builds, PARSE of the same context reads back: the raw payload and GEN15's header, or the payload
that went on the wire, GEN20's header and a trailer iff Active with a nonzero session ID. -/
def Obligations.BuildThenParse : Prop :=
  ∀ (raw frame : Bytes) (pt : UInt6) (oem : Option Oem) (trace : List Event) (s t : State),
    exec (.build raw pt oem) s = .next t → t.report = some { ended := .ok (.bytes frame), trace := trace } →
    match s.ctx.proto with
    | .v15 => ∃ h, ReportsOk (.parse frame) t (.parsed15 raw { hdr := h, payload := raw }) ∧
        h.payloadLen.toNat = raw.length ∧
        (if s.ctx.v15Active = true ∧ s.ctx.v15AuthType ≠ 0x00#8 then
          h.authType = s.ctx.v15AuthType ∧ some h.sid = s.ctx.v15Sid ∧ some h.seq = s.ctx.v15Seq ∧
          ∃ code, h.authCode = some code ∧ trace = [.ac raw (.ok code)]
        else h = { authType := 0x00#8, seq := 0#32, sid := 0#32, authCode := none, payloadLen := h.payloadLen })
    | .v20 => ∃ h p tr, ReportsOk (.parse frame) t (.parsed20 p { hdr := h, payload := p, trailer := tr }) ∧
        h.authType = 0x06#8 ∧ h.pt = pt ∧ h.oem = oem ∧ h.payloadLen.toNat = p.length ∧
        (tr.isSome ↔ s.ctx.v20State = .active ∧ s.ctx.v20Sid ≠ some 0#32) ∧
        (if s.ctx.v20State = .active then
          h.enc = true ∧ h.auth = true ∧ some h.sid = s.ctx.v20Sid ∧ some h.seq = s.ctx.v20Seq ∧
          trace.head? = some (.enc raw s.ctx.v20Keys (.ok p))
        else h.enc = false ∧ h.auth = false ∧ h.sid = 0#32 ∧ h.seq = 0#32 ∧ p = raw)

/-- R236: the length of every frame GEN15 and GEN20 build. -/
def Obligations.FrameLengths : Prop :=
  ∀ (raw frame : Bytes) (pt : UInt6) (oem : Option Oem) (trace : List Event) (s t : State),
    t.report = some { ended := .ok (.bytes frame), trace := trace } →
    (exec (.gen15 raw) s = .next t →
      frame.length = (if s.ctx.v15Active = true ∧ s.ctx.v15AuthType ≠ 0x00#8 then 26 else 10) + raw.length ∧
      frame.length ≤ 281) ∧
    (exec (.gen20 raw pt oem) s = .next t →
      ∃ p : Nat, p ≤ 65535 ∧
        (if s.ctx.v20State = .active then ∃ b, trace.head? = some (.enc raw s.ctx.v20Keys (.ok b)) ∧ b.length = p
         else p = raw.length) ∧
        (if s.ctx.v20State = .active ∧ s.ctx.v20Sid ≠ some 0#32 then
          ∃ hb b tr, trace.getLast? = some (.trlgen hb b (.ok tr)) ∧ tr.authCode.length ≤ 16 ∧
            frame.length = (if pt = s.cfg.ptOem then 18 else 12) + p +
              padSize ((if pt = s.cfg.ptOem then 18 else 12) + p) + 2 + tr.authCode.length
         else frame.length = (if pt = s.cfg.ptOem then 18 else 12) + p))

/-- R237: an authenticated GEN15 and an Active GEN20 or BUILD embed the context's session ID and sequence at their
offsets, as held at call time, and leave every register as it was. -/
def Obligations.SessionValuesEmbedded : Prop :=
  ∀ (raw frame : Bytes) (pt : UInt6) (oem : Option Oem) (trace : List Event) (s t : State),
    t.report = some { ended := .ok (.bytes frame), trace := trace } →
    (exec (.gen15 raw) s = .next t → s.ctx.v15Active = true → s.ctx.v15AuthType ≠ 0x00#8 →
      some (u32At frame 1) = s.ctx.v15Seq ∧ some (u32At frame 5) = s.ctx.v15Sid ∧ t.ctx = s.ctx) ∧
    (exec (.gen20 raw pt oem) s = .next t ∨ (s.ctx.proto = .v20 ∧ exec (.build raw pt oem) s = .next t) →
      s.ctx.v20State = .active →
      some (u32At frame (if pt = s.cfg.ptOem then 8 else 2)) = s.ctx.v20Sid ∧
      some (u32At frame (if pt = s.cfg.ptOem then 12 else 6)) = s.ctx.v20Seq ∧ t.ctx = s.ctx)

/-- R34: the keys reach ENC unread: whatever keys the context holds, GEN20 ends the same. -/
def Obligations.KeysNeverInspected : Prop :=
  ∀ (raw : Bytes) (pt : UInt6) (oem : Option Oem) (k : Option Key) (s : State),
    (reportOf (exec (.gen20 raw pt oem) { s with ctx := { s.ctx with v20Keys := k } })).map (·.ended) =
    (reportOf (exec (.gen20 raw pt oem) s)).map (·.ended)

/-- R215: the v2.0 registers have no effect on what GEN15 ends with, nor the v1.5 registers on GEN20. -/
def Obligations.GenerationsDoNotMix : Prop :=
  ∀ (raw : Bytes) (pt : UInt6) (oem : Option Oem) (s : State) (c : Context),
    reportOf (exec (.gen15 raw) { s with ctx := { c with live := s.ctx.live, v15Active := s.ctx.v15Active,
                                                          v15AuthType := s.ctx.v15AuthType, v15Sid := s.ctx.v15Sid,
                                                          v15Seq := s.ctx.v15Seq } }) = reportOf (exec (.gen15 raw) s) ∧
    reportOf (exec (.gen20 raw pt oem) { s with ctx := { c with live := s.ctx.live, v20State := s.ctx.v20State,
                                                                 v20Sid := s.ctx.v20Sid, v20Seq := s.ctx.v20Seq,
                                                                 v20Keys := s.ctx.v20Keys } }) =
      reportOf (exec (.gen20 raw pt oem) s)

/-! ### Whole-machine rules -/

/-- R42: families 40 to 44, the wire formats, and BUILD, GEN15, GEN20 and PARSE write no context register. -/
def Obligations.OnlyContextOperationsWriteContext : Prop :=
  ∀ (i : Instr) (s t : State), exec i s = .next t → (i.isPure = true ∨ i.isPort = true) → t.ctx = s.ctx

/-- R39: only GEN15, GEN20 and BUILD call a collaborator; after every other operation the trace is empty and the ports
stand as they were. -/
def Obligations.OnlyGeneratorsCallCollaborators : Prop :=
  ∀ (i : Instr) (s t : State), exec i s = .next t → i.mayCall = false →
    t.collab = s.collab ∧ ∃ e, t.report = some { ended := e, trace := [] }

/-- R291: families 40 to 44 need no context and behave the same in every state. -/
def Obligations.PureOperationsIgnoreContext : Prop :=
  ∀ (i : Instr) (s : State) (c : Context), i.isPure = true →
    reportOf (exec i { s with ctx := c }) = reportOf (exec i s)

/-- R263: every operation of families 45 and 46 but CTX_CREATE is NoContext while no context lives, GEN20's shape
refusal alone coming before it. -/
def Obligations.NoContextComesFirst : Prop :=
  ∀ (i : Instr) (s : State), s.ctx.live = false → i.isPure = false → (∀ p, i ≠ .ctxCreate p) →
    ReportsErr i s .noContext ∨
    ∃ raw pt oem name, i = .gen20 raw pt oem ∧ ¬ OemFits s.cfg pt oem ∧ Refuses i s (.operandShape name)

/-- R260, R266: an operation that raises an error writes no register: parameter, context, requests, position and mark are
as they were, and only the ports it called have moved; and the error has the code of its kind and is one the table of R260
lets that operation raise (a wire row reads as the unpack of its format does, log entry 7). -/
def Obligations.ErrorsLeaveContext : Prop :=
  ∀ (i : Instr) (s t : State) (e : Error) (trace : List Event),
    exec i s = .next t → t.report = some { ended := .err e, trace := trace } →
    ErrorRow i e ∧
    t.ctx = s.ctx ∧ t.cfg = s.cfg ∧ t.pending = s.pending ∧ t.pos = s.pos ∧ t.refusalMark = s.refusalMark ∧
    (trace = [] → t.collab = s.collab ∧ t.draws = s.draws)

/-- R270: a refused operation leaves everything but the report as it was, has an empty trace, and sets the run's
mark. That a refusal is a next state of the machine is the model's choice (log entry 8). -/
def Obligations.RefusalsLeaveContext : Prop :=
  ∀ (i : Instr) (s t : State) (r : Reason) (trace : List Event),
    exec i s = .next t → t.report = some { ended := .refused r, trace := trace } →
    trace = [] ∧ Refuses i s r

/-! ### Decoding, the step, and runs -/

/-- R92: every unassigned tag, with any operands, is refused ReservedOp, and no assigned tag ever is. -/
def Obligations.ReservedTagsRefused : Prop :=
  ∀ (tag : Byte) (ops : List Operand) (cfg : Config),
    decode cfg (.op tag ops) = .error (.refuse (.reservedOp tag)) ↔
      tag.toNat = 0x00 ∨ (0x0A ≤ tag.toNat ∧ tag.toNat ≤ 0x0F) ∨ (0x17 ≤ tag.toNat ∧ tag.toNat ≤ 0x1F) ∨
      (0x24 ≤ tag.toNat ∧ tag.toNat ≤ 0x2F) ∨ (0x3B ≤ tag.toNat ∧ tag.toNat ≤ 0x3F) ∨ 0x44 ≤ tag.toNat

/-- R272, R90: a request of an assigned tag whose typed operands, the fields of a record among them, all fit their types
is an instruction; otherwise it is refused OperandRange of the first that does not, in the order of log entry 10; and with
a wrong number or kind of operands OperandRange of the list itself (log entry 9). -/
def Obligations.OperandsOutOfRangeRefused : Prop :=
  ∀ (cfg : Config) (tag : Byte) (ops : List Operand),
    match typedOperands tag ops with
    | some fields =>
      (match firstOutOfType fields with
       | some name => decode cfg (.op tag ops) = .error (.refuse (.operandRange name))
       | none => ∃ i, decode cfg (.op tag ops) = .ok i)
    | none =>
      decode cfg (.op tag ops) ≠ .error (.refuse (.reservedOp tag)) →
        decode cfg (.op tag ops) = .error (.refuse (.operandRange .operands))

/-- DECODE AND ENCODE AGREE: every well-formed instruction, with every operand at every value its request can carry, is
what the decoder reads from its request. What a request is made of is the model's choice (log entries 7 and 10). -/
def Obligations.DecodeOfEncode : Prop :=
  ∀ (cfg : Config) (i : Instr), i.wf cfg = true → decode cfg (encode cfg i) = .ok i

/-- What the decoder reads, the encoder can spell and it is well-formed; for a request of format OP, the encoder gives
back that very request (R93: one form per request). -/
def Obligations.EncodeOfDecode : Prop :=
  ∀ (cfg : Config) (r : Request) (i : Instr), decode cfg r = .ok i →
    i.wf cfg = true ∧ ∀ tag ops, r = .op tag ops → encode cfg i = r

/-- Requests written out from the programs of 95_test_vectors.md decode to the operations they stand for (R91); their
operand records are the model's (log entry 10), and so is the wire request (log entry 7). -/
def Obligations.DecodesProgramRequests : Prop :=
  decode .default (.op 0x30#8 [.num 1]) = .ok (.ctxCreate .v20) ∧
  decode .default (.op 0x39#8 [.num 6]) = .ok (.smAdvance .active) ∧
  decode .default (.op 0x33#8 [.num 1, .num 2]) = .ok (.ctxSetV15 true 0x02#8) ∧
  decode .default (.op 0x36#8 [.num 0x11223344]) = .ok (.ctxSetV20Sid 0x11223344#32) ∧
  decode .default (.op 0x42#8 [.bytes [0x99#8], .num 0, .oem none]) = .ok (.build [0x99#8] 0#6 none) ∧
  decode .default (.op 0x14#8 [.num 13]) = .ok (.padSize 13) ∧
  decode .default (.header15 [0x00#8, 0x01#8, 0x02#8, 0x03#8, 0x04#8, 0x05#8, 0x06#8, 0x07#8, 0x08#8, 0x10#8]) =
    .ok (.wireW15n 0x04030201#32 0x08070605#32 0x10#8)

/-- A STEP RUNS THE DECODED INSTRUCTION: the host's next request is taken, its position moves by one, and the step is
exec of what the decoder reads (R21, R23). -/
def Obligations.StepRunsDecodedInstruction : Prop :=
  ∀ (s : State) (r : Request) (rest : List Request) (i : Instr),
    s.pending = r :: rest → decode s.cfg r = .ok i →
    step s = exec i { s with pending := rest, pos := s.pos + 1 }

/-- A request the decoder gives no instruction ends in its refusal (R270, R272), or for too few wire bytes in
BufferTooShort (R261), with the host's position moved and nothing else changed; and with no request nothing happens.
The idle step and the wire requests are the model's choices (log entries 5 and 7). -/
def Obligations.StepRejectsByName : Prop :=
  ∀ (s : State) (r : Request) (rest : List Request),
    (s.pending = [] → step s = .next s) ∧
    (∀ reason, s.pending = r :: rest → decode s.cfg r = .error (.refuse reason) →
      step s = .next { s with
        pending := rest
        pos := s.pos + 1
        report := some { ended := .refused reason, trace := [] }
        refusalMark := true }) ∧
    (∀ e, s.pending = r :: rest → decode s.cfg r = .error (.raise e) →
      step s = .next { s with
        pending := rest
        pos := s.pos + 1
        report := some { ended := .err e, trace := [] } })

/-- R269: every step answers a next state: after any outcome the block is ready for the next operation. Along the way
PT_OEM never changes and the refusal mark, once set, stays (R8, R270). -/
def Obligations.EveryStepGoesOn : Prop :=
  ∀ s : State, ∃ t, step s = .next t ∧ t.cfg = s.cfg ∧ (s.refusalMark = true → t.refusalMark = true) ∧
    (∀ r rest, s.pending = r :: rest → t.pending = rest ∧ t.pos = s.pos + 1 ∧ t.report.isSome)

/-- THE INVARIANT: every step keeps reports sound (R41, R85, R235, R261 to R267, R270). A refusal is a next state by the
model's choice (log entry 8). -/
def Obligations.StepKeepsReportsSound : Prop :=
  ∀ s t : State, s.Sound → step s = .next t → t.Sound

/-- The invariant of StepKeepsReportsSound holds at power-on. -/
def Obligations.ResetIsSound : Prop := State.reset.Sound

/-- R291: at power-on no context is live, nothing was reported or refused, and CTX_READ is NoContext. PT_OEM = 0x02 is the
spec's general-knowledge default (R8, log entry 1). -/
def Obligations.PowerOnState : Prop :=
  State.reset.ctx.live = false ∧ State.reset.cfg.ptOem = 0x02#6 ∧ State.reset.report = none ∧
  State.reset.refusalMark = false ∧ State.reset.pos = 0 ∧ ReportsErr .ctxRead State.reset .noContext

/-! ### The wire-format rows -/

/-- R70 to R74: the bytes of a header row are read as that row's fields, byte 0 of v2.0 and the IANA's reserved byte
kept as they stand. That a row is an instruction which reads its own bytes is the model's choice (log entry 7). -/
def Obligations.WireHeaderRowsReadTheirFields : Prop :=
  ∀ (authType : Byte) (enc auth : Bool) (pt : UInt6) (iana sid seq : U32) (pid len : U16) (code : Bytes) (len8 : Byte)
    (s : State),
    ReportsOk (.wireW15n seq sid len8) s
      (.h15 { authType := 0x00#8, seq := seq, sid := sid, authCode := none, payloadLen := len8 } 10) ∧
    (authType ≠ 0x00#8 → code.length = 16 →
      ReportsOk (.wireW15a authType seq sid code len8) s
        (.h15 { authType := authType, seq := seq, sid := sid, authCode := some code, payloadLen := len8 } 26)) ∧
    (pt ≠ s.cfg.ptOem →
      ReportsOk (.wireW20 authType enc auth pt sid seq len) s
        (.h20 { authType := authType, enc := enc, auth := auth, pt := pt, oem := none, sid := sid, seq := seq,
                payloadLen := len } 12)) ∧
    ReportsOk (.wireW20o authType enc auth iana pid sid seq len) s
      (.h20 { authType := authType, enc := enc, auth := auth, pt := s.cfg.ptOem, oem := some { iana := iana, pid := pid },
              sid := sid, seq := seq, payloadLen := len } 18)

/-- R75: the bytes of a trailer row, with up to 3 pad bytes and up to 16 auth-code bytes, are read as that row's
fields. -/
def Obligations.WireTrailerRowReadsItsFields : Prop :=
  ∀ (pad : Bytes) (padLen nextHeader : Byte) (code : Bytes) (s : State), pad.length ≤ 3 → code.length ≤ 16 →
    ReportsOk (.wireWtrl pad padLen nextHeader code) s
      (.trl { pad := pad, padLen := padLen, nextHeader := nextHeader, authCode := code }
        (pad.length + 2 + code.length))
end

