-- ==== Sys2Proof/Laws/Fields.lean ====
section
/-! SUPPORT. Lemmas about fields: lengths, little-endian bytes and their inverse (R13), pad counts (R162), the flag byte
(R73). -/

namespace Sys2Proof.Machine

@[simp] theorem le16_length (v : U16) : (le16 v).length = 2 := rfl
@[simp] theorem le32_length (v : U32) : (le32 v).length = 4 := rfl
@[simp] theorem bytesOfNat_length (n x : Nat) : (bytesOfNat n x).length = n := by
  induction n generalizing x with
  | zero => rfl
  | succ n ih => simp [bytesOfNat, ih]

theorem le16_eq_bytesOfNat (v : U16) : le16 v = bytesOfNat 2 v.toNat := by
  simp only [le16, bytesOfNat, List.cons.injEq, and_true]
  constructor <;> (apply BitVec.eq_of_toNat_eq; simp [BitVec.extractLsb'_toNat, Nat.shiftRight_eq_div_pow])

theorem le32_eq_bytesOfNat (v : U32) : le32 v = bytesOfNat 4 v.toNat := by
  simp only [le32, bytesOfNat, List.cons.injEq, and_true]
  refine ⟨?_, ?_, ?_, ?_⟩ <;>
    (apply BitVec.eq_of_toNat_eq; simp [BitVec.extractLsb'_toNat, Nat.shiftRight_eq_div_pow, Nat.div_div_eq_div_mul])

theorem unle_bytesOfNat (n x : Nat) : unle (bytesOfNat n x) = x % 256 ^ n := by
  induction n generalizing x with
  | zero => simp [bytesOfNat, unle, Nat.mod_one]
  | succ n ih =>
    rw [bytesOfNat, unle, ih, BitVec.toNat_ofNat, show 256 ^ (n + 1) = 256 * 256 ^ n from Nat.pow_succ', Nat.mod_mul (x := x) (a := 256) (b := 256 ^ n)]

@[simp] theorem ofNat_unle_le16 (v : U16) : BitVec.ofNat 16 (unle (le16 v)) = v := by
  apply BitVec.eq_of_toNat_eq
  rw [le16_eq_bytesOfNat, unle_bytesOfNat]
  simpa using v.isLt

@[simp] theorem ofNat_unle_le32 (v : U32) : BitVec.ofNat 32 (unle (le32 v)) = v := by
  apply BitVec.eq_of_toNat_eq
  rw [le32_eq_bytesOfNat, unle_bytesOfNat]
  simpa using v.isLt

@[simp] theorem ofNat_unle_singleton (v : Byte) : BitVec.ofNat 8 (unle [v]) = v := by
  apply BitVec.eq_of_toNat_eq
  simp [unle]

theorem padSize_le (l : Nat) : padSize l ≤ 3 := by unfold padSize; omega
theorem padSize_aligns (l : Nat) : (l + padSize l) % 4 = 0 := by unfold padSize; omega

/-! ### The flags of byte 1 (R73) -/
theorem flagsByte_eq (enc auth : Bool) (pt : UInt6) :
    flagsByte enc auth pt = BitVec.ofNat 8 (128 * enc.toNat + 64 * auth.toNat + pt.toNat) := by
  revert enc auth pt; decide

@[simp] theorem encFlag_flagsByte (enc auth : Bool) (pt : UInt6) : encFlag (flagsByte enc auth pt) = enc := by
  revert enc auth pt; decide

@[simp] theorem authFlag_flagsByte (enc auth : Bool) (pt : UInt6) : authFlag (flagsByte enc auth pt) = auth := by
  revert enc auth pt; decide

@[simp] theorem payloadTypeOf_flagsByte (enc auth : Bool) (pt : UInt6) : payloadTypeOf (flagsByte enc auth pt) = pt := by
  revert enc auth pt; decide

theorem trailerExpected_iff (h : H20) : trailerExpected h = true ↔ h.auth = true ∧ h.sid ≠ 0#32 := by
  simp [trailerExpected]

end Sys2Proof.Machine
end

