-- ==== Sys2Proof/Laws/Buffer.lean ====
section
/-! SUPPORT. What the buffer accesses do (R14, R57): each read and write in its two cases, read after write, what a write
leaves alone, and the fields of a buffer a little-endian write filled. -/

namespace Sys2Proof.Machine

theorem memRead_eq_ok {tag : Tag} {buf : Bytes} {addr n : Nat} (h : addr + n ≤ buf.length) :
    memRead tag buf addr n = .ok ((buf.drop addr).take n) := by simp [memRead, h]

theorem memRead_eq_error {tag : Tag} {buf : Bytes} {addr n : Nat} (h : buf.length < addr + n) :
    memRead tag buf addr n = .error (.bufferTooShort tag) := by simp [memRead, Nat.not_le.2 h]

/-- A read raises nothing but BufferTooShort of its caller's tag (R14). -/
theorem memRead_error {tag : Tag} {buf : Bytes} {addr n : Nat} {e : Error} (h : memRead tag buf addr n = .error e) :
    e = .bufferTooShort tag := by
  unfold memRead at h
  split at h <;> cases h
  rfl

/-- A write raises nothing but BufferTooShort of its caller's tag (R14). -/
theorem memWrite_error {tag : Tag} {buf v : Bytes} {addr : Nat} {e : Error} (h : memWrite tag buf addr v = .error e) :
    e = .bufferTooShort tag := by
  unfold memWrite at h
  split at h <;> cases h
  rfl

/-- A read of the bytes that stand between two others. -/
theorem memRead_middle {tag : Tag} {a b c : Bytes} {addr n : Nat} (ha : addr = a.length) (hn : n = b.length) :
    memRead tag (a ++ b ++ c) addr n = .ok b := by
  subst ha hn
  rw [memRead_eq_ok (by simp)]
  simp

theorem getD_eq_getElem {buf : Bytes} {o : Nat} (h : o < buf.length) : buf.getD o 0#8 = buf[o] := by
  rw [List.getD_eq_getElem?_getD, List.getElem?_eq_getElem h, Option.getD_some]

theorem drop_eq_getD_cons {buf : Bytes} {o : Nat} (h : o < buf.length) :
    buf.drop o = buf.getD o 0#8 :: buf.drop (o + 1) := by
  rw [List.drop_eq_getElem_cons h, getD_eq_getElem h]

theorem readU8_eq_ok {tag : Tag} {buf : Bytes} {o : Nat} (h : o + 1 ≤ buf.length) :
    readU8 tag buf o = .ok (buf.getD o 0#8) := by
  rw [readU8, memRead_eq_ok h, drop_eq_getD_cons h, List.take_succ_cons, List.take_zero]
  simp only [Except.map, ofNat_unle_singleton]

theorem readU16_eq_ok {tag : Tag} {buf : Bytes} {o : Nat} (h : o + 2 ≤ buf.length) :
    readU16 tag buf o = .ok (u16At buf o) := by
  rw [readU16, memRead_eq_ok h, drop_eq_getD_cons (by omega), drop_eq_getD_cons (by omega)]
  simp only [Except.map, List.take_succ_cons, List.take_zero, Except.ok.injEq, u16At]
  generalize buf.getD o 0#8 = b0
  generalize buf.getD (o + 1) 0#8 = b1
  apply BitVec.eq_of_toNat_eq
  have h0 := b0.isLt
  have h1 := b1.isLt
  simp only [unle, BitVec.toNat_ofNat, BitVec.toNat_append]
  rw [← Nat.shiftLeft_add_eq_or_of_lt h0, Nat.shiftLeft_eq]
  omega

theorem readU32_eq_ok {tag : Tag} {buf : Bytes} {o : Nat} (h : o + 4 ≤ buf.length) :
    readU32 tag buf o = .ok (u32At buf o) := by
  rw [readU32, memRead_eq_ok h, drop_eq_getD_cons (by omega), drop_eq_getD_cons (by omega),
    drop_eq_getD_cons (by omega), drop_eq_getD_cons (by omega)]
  simp only [Except.map, List.take_succ_cons, List.take_zero, Except.ok.injEq, u32At]
  generalize buf.getD o 0#8 = b0
  generalize buf.getD (o + 1) 0#8 = b1
  generalize buf.getD (o + 2) 0#8 = b2
  generalize buf.getD (o + 3) 0#8 = b3
  apply BitVec.eq_of_toNat_eq
  have h0 := b0.isLt
  have h1 := b1.isLt
  have h2 := b2.isLt
  have h3 := b3.isLt
  simp only [unle, BitVec.toNat_ofNat, BitVec.toNat_append]
  rw [← Nat.shiftLeft_add_eq_or_of_lt h0, ← Nat.shiftLeft_add_eq_or_of_lt h1, ← Nat.shiftLeft_add_eq_or_of_lt h2,
    Nat.shiftLeft_eq, Nat.shiftLeft_eq, Nat.shiftLeft_eq]
  omega

theorem u16_of_bytes (v : U16) : (v.extractLsb' 8 8 ++ v.extractLsb' 0 8 : U16) = v := by
  apply BitVec.eq_of_toNat_eq
  have h0 := (v.extractLsb' 0 8).isLt
  rw [BitVec.toNat_append, ← Nat.shiftLeft_add_eq_or_of_lt h0, Nat.shiftLeft_eq]
  simp only [BitVec.extractLsb'_toNat, Nat.shiftRight_eq_div_pow]
  have := v.isLt
  omega

theorem u32_of_bytes (v : U32) :
    (v.extractLsb' 24 8 ++ v.extractLsb' 16 8 ++ v.extractLsb' 8 8 ++ v.extractLsb' 0 8 : U32) = v := by
  apply BitVec.eq_of_toNat_eq
  have h0 := (v.extractLsb' 0 8).isLt
  have h1 := (v.extractLsb' 8 8).isLt
  have h2 := (v.extractLsb' 16 8).isLt
  rw [BitVec.toNat_append, BitVec.toNat_append, BitVec.toNat_append, ← Nat.shiftLeft_add_eq_or_of_lt h0,
    ← Nat.shiftLeft_add_eq_or_of_lt h1, ← Nat.shiftLeft_add_eq_or_of_lt h2, Nat.shiftLeft_eq, Nat.shiftLeft_eq,
    Nat.shiftLeft_eq]
  simp only [BitVec.extractLsb'_toNat, Nat.shiftRight_eq_div_pow]
  have := v.isLt
  omega

/-- What a little-endian write put there, the 16-bit field at the offset is. -/
theorem u16At_le16 (pre post : Bytes) (v : U16) : u16At (pre ++ (le16 v ++ post)) pre.length = v := by
  have h : ∀ k < 2, (pre ++ (le16 v ++ post)).getD (pre.length + k) 0#8 = (le16 v).getD k 0#8 := by
    intro k hk
    rw [List.getD_append_right _ _ _ _ (by omega), List.getD_append _ _ _ _ (by simp; omega)]
    simp
  have h0 := h 0 (by omega)
  rw [Nat.add_zero] at h0
  rw [u16At, h0, h 1 (by omega)]
  exact u16_of_bytes v

/-- What a little-endian write put there, the 32-bit field at the offset is. -/
theorem u32At_le32 (pre post : Bytes) (v : U32) : u32At (pre ++ (le32 v ++ post)) pre.length = v := by
  have h : ∀ k < 4, (pre ++ (le32 v ++ post)).getD (pre.length + k) 0#8 = (le32 v).getD k 0#8 := by
    intro k hk
    rw [List.getD_append_right _ _ _ _ (by omega), List.getD_append _ _ _ _ (by simp; omega)]
    simp
  have h0 := h 0 (by omega)
  rw [Nat.add_zero] at h0
  rw [u32At, h0, h 1 (by omega), h 2 (by omega), h 3 (by omega)]
  exact u32_of_bytes v

theorem readUpto_eq_ok {tag : Tag} {buf : Bytes} {off n : Nat} (h : off ≤ buf.length) :
    readUpto tag buf off n = .ok ((buf.drop off).take n, off + min n (buf.length - off)) := by
  rw [readUpto, if_neg (by omega)]
  simp only [memRead_eq_ok (tag := tag) (buf := buf) (addr := off) (n := min n (buf.length - off)) (by omega)]
  simp [Except.map, List.take_eq_take_iff]

theorem readUpto_eq_error {tag : Tag} {buf : Bytes} {off n : Nat} (h : buf.length < off) :
    readUpto tag buf off n = .error (.bufferTooShort tag) := by rw [readUpto, if_pos h]

theorem memWrite_eq_ok {tag : Tag} {buf v : Bytes} {addr : Nat} (h : addr + v.length ≤ buf.length) :
    memWrite tag buf addr v = .ok (buf.take addr ++ v ++ buf.drop (addr + v.length)) := by simp [memWrite, h]

theorem memWrite_eq_error {tag : Tag} {buf v : Bytes} {addr : Nat} (h : buf.length < addr + v.length) :
    memWrite tag buf addr v = .error (.bufferTooShort tag) := by simp [memWrite, Nat.not_le.2 h]

/-- A write keeps the buffer's length and every byte outside its range, and puts its bytes in order. -/
theorem memWrite_getElem? {tag : Tag} {buf v out : Bytes} {addr : Nat} (h : memWrite tag buf addr v = .ok out) (j : Nat) :
    out[j]? = if addr ≤ j ∧ j < addr + v.length then v[j - addr]? else buf[j]? := by
  unfold memWrite at h
  split at h
  · cases h
    have hl : (buf.take addr).length = addr := by simp; omega
    rw [List.append_assoc, List.getElem?_append, hl, List.getElem?_append, List.getElem?_drop]
    by_cases h1 : j < addr
    · rw [if_pos h1, if_neg (by omega), List.getElem?_take_of_lt h1]
    · rw [if_neg h1]
      by_cases h2 : j < addr + v.length
      · rw [if_pos (by omega), if_pos (by omega)]
      · rw [if_neg (by omega), if_neg (by omega)]
        congr 1; omega
  · cases h

theorem memWrite_length {tag : Tag} {buf v out : Bytes} {addr : Nat} (h : memWrite tag buf addr v = .ok out) :
    out.length = buf.length := by
  unfold memWrite at h
  split at h
  · cases h
    simp; omega
  · cases h

/-- Read after write: the bytes just written come back. -/
theorem memRead_of_memWrite {tag tag' : Tag} {buf v out : Bytes} {addr : Nat} (h : memWrite tag buf addr v = .ok out) :
    memRead tag' out addr v.length = .ok v := by
  unfold memWrite at h
  split at h
  · cases h
    exact memRead_middle (by simp; omega) rfl
  · cases h

/-- A write of one byte more is a write of the rest after that byte is set. -/
theorem splice_cons {buf v : Bytes} {x : Byte} {o : Nat} (h : o < buf.length) :
    buf.take o ++ x :: v ++ buf.drop (o + (x :: v).length) =
      (buf.set o x).take (o + 1) ++ v ++ (buf.set o x).drop (o + 1 + v.length) := by
  apply List.ext_getElem?
  intro j
  simp only [List.append_assoc, List.cons_append, List.getElem?_append, List.length_take, List.length_set,
    List.getElem?_drop, List.getElem?_cons, List.length_cons]
  rw [Nat.min_eq_left (by omega), Nat.min_eq_left (by omega)]
  rcases Nat.lt_trichotomy j o with hj | hj | hj
  · rw [if_pos hj, if_pos (by omega), List.getElem?_take_of_lt hj, List.getElem?_take_of_lt (by omega),
      List.getElem?_set_ne (by omega)]
  · subst hj
    rw [if_neg (by omega), if_pos (by omega), if_pos (by omega), List.getElem?_take_of_lt (by omega),
      List.getElem?_set_self h]
  · rw [if_neg (by omega), if_neg (by omega : ¬ j < o + 1), if_neg (by omega : ¬ j - o = 0),
      show j - o - 1 = j - (o + 1) by omega]
    by_cases hl : j - (o + 1) < v.length
    · rw [if_pos (by omega), if_pos hl]
    · rw [if_neg (by omega), if_neg hl, List.getElem?_set_ne (by omega)]; congr 1; omega

theorem splice_nil (buf : Bytes) (o : Nat) : buf.take o ++ [] ++ buf.drop (o + ([] : Bytes).length) = buf := by
  simp

end Sys2Proof.Machine
end

