-- ==== Sys2Proof/Laws/State.lean ====
section
/-! SUPPORT. One lemma per field per update of the state, each true by rfl, and the two cases of each shared end of an
operation, so that no proof unfolds a record update. -/

namespace Sys2Proof.Machine

@[simp] theorem State.finish_cfg (s : State) (out : Output) (trace : List Event) : (s.finish out trace).cfg = s.cfg := rfl
@[simp] theorem State.finish_ctx (s : State) (out : Output) (trace : List Event) : (s.finish out trace).ctx = s.ctx := rfl
@[simp] theorem State.finish_pos (s : State) (out : Output) (trace : List Event) : (s.finish out trace).pos = s.pos := rfl
@[simp] theorem State.finish_pending (s : State) (out : Output) (trace : List Event) : (s.finish out trace).pending = s.pending := rfl
@[simp] theorem State.finish_collab (s : State) (out : Output) (trace : List Event) : (s.finish out trace).collab = s.collab := rfl
@[simp] theorem State.finish_draws (s : State) (out : Output) (trace : List Event) : (s.finish out trace).draws = s.draws := rfl
@[simp] theorem State.finish_report (s : State) (out : Output) (trace : List Event) : (s.finish out trace).report = some { ended := .ok out, trace := trace } := rfl
@[simp] theorem State.finish_refusalMark (s : State) (out : Output) (trace : List Event) : (s.finish out trace).refusalMark = s.refusalMark := rfl

@[simp] theorem State.raiseError_cfg (s : State) (e : Error) (trace : List Event) : (s.raiseError e trace).cfg = s.cfg := rfl
@[simp] theorem State.raiseError_ctx (s : State) (e : Error) (trace : List Event) : (s.raiseError e trace).ctx = s.ctx := rfl
@[simp] theorem State.raiseError_pos (s : State) (e : Error) (trace : List Event) : (s.raiseError e trace).pos = s.pos := rfl
@[simp] theorem State.raiseError_pending (s : State) (e : Error) (trace : List Event) : (s.raiseError e trace).pending = s.pending := rfl
@[simp] theorem State.raiseError_collab (s : State) (e : Error) (trace : List Event) : (s.raiseError e trace).collab = s.collab := rfl
@[simp] theorem State.raiseError_draws (s : State) (e : Error) (trace : List Event) : (s.raiseError e trace).draws = s.draws := rfl
@[simp] theorem State.raiseError_report (s : State) (e : Error) (trace : List Event) : (s.raiseError e trace).report = some { ended := .err e, trace := trace } := rfl
@[simp] theorem State.raiseError_refusalMark (s : State) (e : Error) (trace : List Event) : (s.raiseError e trace).refusalMark = s.refusalMark := rfl

@[simp] theorem State.refuse_cfg (s : State) (r : Reason) : (s.refuse r).cfg = s.cfg := rfl
@[simp] theorem State.refuse_ctx (s : State) (r : Reason) : (s.refuse r).ctx = s.ctx := rfl
@[simp] theorem State.refuse_pos (s : State) (r : Reason) : (s.refuse r).pos = s.pos := rfl
@[simp] theorem State.refuse_pending (s : State) (r : Reason) : (s.refuse r).pending = s.pending := rfl
@[simp] theorem State.refuse_collab (s : State) (r : Reason) : (s.refuse r).collab = s.collab := rfl
@[simp] theorem State.refuse_draws (s : State) (r : Reason) : (s.refuse r).draws = s.draws := rfl
@[simp] theorem State.refuse_report (s : State) (r : Reason) : (s.refuse r).report = some { ended := .refused r, trace := [] } := rfl
@[simp] theorem State.refuse_refusalMark (s : State) (r : Reason) : (s.refuse r).refusalMark = true := rfl

@[simp] theorem State.writeCtx_cfg (s : State) (c : Context) : (s.writeCtx c).cfg = s.cfg := rfl
@[simp] theorem State.writeCtx_ctx (s : State) (c : Context) : (s.writeCtx c).ctx = c := rfl
@[simp] theorem State.writeCtx_pos (s : State) (c : Context) : (s.writeCtx c).pos = s.pos := rfl
@[simp] theorem State.writeCtx_pending (s : State) (c : Context) : (s.writeCtx c).pending = s.pending := rfl
@[simp] theorem State.writeCtx_collab (s : State) (c : Context) : (s.writeCtx c).collab = s.collab := rfl
@[simp] theorem State.writeCtx_draws (s : State) (c : Context) : (s.writeCtx c).draws = s.draws := rfl
@[simp] theorem State.writeCtx_report (s : State) (c : Context) : (s.writeCtx c).report = some { ended := .ok .unit, trace := [] } := rfl
@[simp] theorem State.writeCtx_refusalMark (s : State) (c : Context) : (s.writeCtx c).refusalMark = s.refusalMark := rfl

@[simp] theorem State.afterAc_cfg (s : State) : (s.afterAc).cfg = s.cfg := rfl
@[simp] theorem State.afterAc_ctx (s : State) : (s.afterAc).ctx = s.ctx := rfl
@[simp] theorem State.afterAc_pos (s : State) : (s.afterAc).pos = s.pos := rfl
@[simp] theorem State.afterAc_pending (s : State) : (s.afterAc).pending = s.pending := rfl
@[simp] theorem State.afterAc_collab (s : State) : (s.afterAc).collab = { s.collab with ac := s.collab.ac.tail } := rfl
@[simp] theorem State.afterAc_draws (s : State) : (s.afterAc).draws = s.draws + 1 := rfl
@[simp] theorem State.afterAc_report (s : State) : (s.afterAc).report = s.report := rfl
@[simp] theorem State.afterAc_refusalMark (s : State) : (s.afterAc).refusalMark = s.refusalMark := rfl

@[simp] theorem State.afterEnc_cfg (s : State) : (s.afterEnc).cfg = s.cfg := rfl
@[simp] theorem State.afterEnc_ctx (s : State) : (s.afterEnc).ctx = s.ctx := rfl
@[simp] theorem State.afterEnc_pos (s : State) : (s.afterEnc).pos = s.pos := rfl
@[simp] theorem State.afterEnc_pending (s : State) : (s.afterEnc).pending = s.pending := rfl
@[simp] theorem State.afterEnc_collab (s : State) : (s.afterEnc).collab = { s.collab with enc := s.collab.enc.tail } := rfl
@[simp] theorem State.afterEnc_draws (s : State) : (s.afterEnc).draws = s.draws + 1 := rfl
@[simp] theorem State.afterEnc_report (s : State) : (s.afterEnc).report = s.report := rfl
@[simp] theorem State.afterEnc_refusalMark (s : State) : (s.afterEnc).refusalMark = s.refusalMark := rfl

@[simp] theorem State.afterTrlgen_cfg (s : State) : (s.afterTrlgen).cfg = s.cfg := rfl
@[simp] theorem State.afterTrlgen_ctx (s : State) : (s.afterTrlgen).ctx = s.ctx := rfl
@[simp] theorem State.afterTrlgen_pos (s : State) : (s.afterTrlgen).pos = s.pos := rfl
@[simp] theorem State.afterTrlgen_pending (s : State) : (s.afterTrlgen).pending = s.pending := rfl
@[simp] theorem State.afterTrlgen_collab (s : State) : (s.afterTrlgen).collab = { s.collab with trlgen := s.collab.trlgen.tail } := rfl
@[simp] theorem State.afterTrlgen_draws (s : State) : (s.afterTrlgen).draws = s.draws + 1 := rfl
@[simp] theorem State.afterTrlgen_report (s : State) : (s.afterTrlgen).report = s.report := rfl
@[simp] theorem State.afterTrlgen_refusalMark (s : State) : (s.afterTrlgen).refusalMark = s.refusalMark := rfl

@[simp] theorem State.issue_cfg (s : State) (rest : List Request) : (s.issue rest).cfg = s.cfg := rfl
@[simp] theorem State.issue_ctx (s : State) (rest : List Request) : (s.issue rest).ctx = s.ctx := rfl
@[simp] theorem State.issue_pos (s : State) (rest : List Request) : (s.issue rest).pos = s.pos + 1 := rfl
@[simp] theorem State.issue_pending (s : State) (rest : List Request) : (s.issue rest).pending = rest := rfl
@[simp] theorem State.issue_collab (s : State) (rest : List Request) : (s.issue rest).collab = s.collab := rfl
@[simp] theorem State.issue_draws (s : State) (rest : List Request) : (s.issue rest).draws = s.draws := rfl
@[simp] theorem State.issue_report (s : State) (rest : List Request) : (s.issue rest).report = s.report := rfl
@[simp] theorem State.issue_refusalMark (s : State) (rest : List Request) : (s.issue rest).refusalMark = s.refusalMark := rfl

@[simp] theorem State.place_cfg (s : State) (r : Request) : (s.place r).cfg = s.cfg := rfl
@[simp] theorem State.place_ctx (s : State) (r : Request) : (s.place r).ctx = s.ctx := rfl
@[simp] theorem State.place_pos (s : State) (r : Request) : (s.place r).pos = s.pos := rfl
@[simp] theorem State.place_pending (s : State) (r : Request) : (s.place r).pending = r :: s.pending.tail := rfl
@[simp] theorem State.place_collab (s : State) (r : Request) : (s.place r).collab = s.collab := rfl
@[simp] theorem State.place_draws (s : State) (r : Request) : (s.place r).draws = s.draws := rfl
@[simp] theorem State.place_report (s : State) (r : Request) : (s.place r).report = s.report := rfl
@[simp] theorem State.place_refusalMark (s : State) (r : Request) : (s.place r).refusalMark = s.refusalMark := rfl

@[simp] theorem State.settle_ok (s : State) (out : Output) : s.settle (.ok out) = s.finish out [] := rfl
@[simp] theorem State.settle_error (s : State) (e : Error) : s.settle (.error e) = s.raiseError e [] := rfl
@[simp] theorem State.packOr_none (s : State) (b : Bytes) : s.packOr none b = s.finish (.bytes b) [] := rfl
@[simp] theorem State.packOr_some (s : State) (c : Check) (b : Bytes) :
    s.packOr (some c) b = s.refuse (.illFormed c) := rfl

theorem State.needCtx_of_live {s t : State} (h : s.ctx.live = true) : s.needCtx t = t := by simp [State.needCtx, h]
theorem State.needCtx_of_dead {s t : State} (h : s.ctx.live = false) : s.needCtx t = s.raiseError .noContext [] := by
  simp [State.needCtx, h]

/-- An operation that settles keeps everything but the report, and its trace is empty. -/
theorem State.settle_eq (s : State) (x : Except Error Output) :
    ∃ e, s.settle x = { s with report := some { ended := e, trace := [] } } := by
  cases x
  · exact ⟨_, rfl⟩
  · exact ⟨_, rfl⟩

/-- The port that answered a call has moved by one; a fixed answer is the head of its list (R40). -/
theorem State.acAnswer_of_cons {s : State} {a : Answer Bytes} {rest : List (Answer Bytes)} (h : s.collab.ac = a :: rest) :
    s.acAnswer = a := by simp [State.acAnswer, h]
theorem State.encAnswer_of_cons {s : State} {a : Answer Bytes} {rest : List (Answer Bytes)}
    (h : s.collab.enc = a :: rest) : s.encAnswer = a := by simp [State.encAnswer, h]
theorem State.trlgenAnswer_of_cons {s : State} {a : Answer Trl} {rest : List (Answer Trl)}
    (h : s.collab.trlgen = a :: rest) : s.trlgenAnswer = a := by simp [State.trlgenAnswer, h]

end Sys2Proof.Machine
end

