-- ==== Sys2Proof/Laws/Operands.lean ====
section
/-! SUPPORT. The named checks against the well-formedness they name (R80 to R84): no check is broken iff the value is
well-formed. -/

namespace Sys2Proof.Machine

@[simp] theorem firstBroken_nil : firstBroken [] = none := rfl
@[simp] theorem firstBroken_cons_true (c : Check) (rest : List (Check × Bool)) :
    firstBroken ((c, true) :: rest) = firstBroken rest := rfl
@[simp] theorem firstBroken_cons_false (c : Check) (rest : List (Check × Bool)) :
    firstBroken ((c, false) :: rest) = some c := rfl

theorem firstBroken_append (a b : List (Check × Bool)) :
    firstBroken (a ++ b) = (firstBroken a).orElse fun _ => firstBroken b := by
  induction a with
  | nil => simp
  | cons x a ih =>
    obtain ⟨c, holds⟩ := x
    cases holds <;> simp [ih]

theorem firstBroken_eq_none_iff (l : List (Check × Bool)) : firstBroken l = none ↔ ∀ x ∈ l, x.2 = true := by
  induction l with
  | nil => simp
  | cons x l ih =>
    obtain ⟨c, holds⟩ := x
    cases holds <;> simp [ih]

theorem topByte_eq_zero_iff (v : U32) : v.extractLsb' 24 8 = 0#8 ↔ v.toNat < 2 ^ 24 := by
  rw [← BitVec.toNat_inj, BitVec.extractLsb'_toNat, Nat.shiftRight_eq_div_pow]
  have := v.isLt
  simp
  omega

theorem checksH15_none_iff (h : H15) : firstBroken (checksH15 h) = none ↔ ValidH15 h := by
  rw [firstBroken_eq_none_iff]
  cases hc : h.authCode <;> simp [checksH15, ValidH15, hc, authNone, h15AuthCodeLen]

theorem checksH20_none_iff (cfg : Config) (h : H20) : firstBroken (checksH20 cfg h) = none ↔ ValidH20 cfg h := by
  rw [firstBroken_eq_none_iff]
  cases hc : h.oem <;> simp [checksH20, ValidH20, hc, authRmcpp, topByte_eq_zero_iff]

theorem checksTrl_none_iff (t : Trl) : firstBroken (checksTrl t) = none ↔ ValidTrl t := by
  rw [firstBroken_eq_none_iff]
  simp [checksTrl, ValidTrl, padByte, nextHeaderByte]
  intros
  exact Iff.rfl

theorem trailerHolds_iff (t : Trl) : trailerHolds t = true ↔ ValidTrl t := by
  rw [trailerHolds, Option.isNone_iff_eq_none, checksTrl_none_iff]

theorem checksS15_none_iff (f : S15) : firstBroken (checksS15 f) = none ↔ ValidS15 f := by
  rw [checksS15, firstBroken_append, ValidS15, ← checksH15_none_iff]
  cases firstBroken (checksH15 f.hdr) <;> simp [firstBroken_eq_none_iff]

theorem hsize20_eq (cfg : Config) (h : H20) : hsize20 cfg h = if h.pt = cfg.ptOem then 18 else 12 := rfl

theorem checksS20_none_iff (cfg : Config) (f : S20) : firstBroken (checksS20 cfg f) = none ↔ ValidS20 cfg f := by
  have hb : (f.trailer.isSome == trailerExpected f.hdr) = true ↔
      (f.trailer.isSome ↔ f.hdr.auth = true ∧ f.hdr.sid ≠ 0#32) := by
    rw [beq_iff_eq, Bool.eq_iff_iff, trailerExpected_iff]
  rw [ValidS20, TrailerFits, ← checksH20_none_iff, ← hb, ← hsize20_eq]
  simp only [checksS20, firstBroken_eq_none_iff, List.forall_mem_append, List.forall_mem_cons, List.not_mem_nil]
  cases hc : f.trailer with
  | none => simp
  | some t => simp [trailerHolds_iff]; tauto

theorem oemShape_none_iff (cfg : Config) (pt : UInt6) (oem : Option Oem) : oemShape cfg pt oem = none ↔ OemFits cfg pt oem := by
  cases oem with
  | none => simp [oemShape, OemFits]
  | some o =>
    by_cases h : pt = cfg.ptOem <;> simp [oemShape, OemFits, h, topByte_eq_zero_iff]

theorem trailerAccepted_iff (t : Trl) (hb p : Bytes) :
    trailerAccepted t hb p = true ↔ ValidTrl t ∧ t.pad.length = padSize (hb.length + p.length) := by
  rw [trailerAccepted, Bool.and_eq_true, trailerHolds_iff, beq_iff_eq]

end Sys2Proof.Machine
end

