-- ==== Sys2Proof/Laws/Wire.lean ====
section
/-! SUPPORT. One lemma per case of each reading of a wire format, what a reading that succeeds returns (R85), the sizes of
packed values, and that the packed bytes read back. -/

namespace Sys2Proof.Machine

theorem readHeader15_short {buf : Bytes} (h : buf.length < 10) :
    readHeader15 buf = .error (.bufferTooShort .header) := by rw [readHeader15, if_pos h]

theorem readHeader15Rest_cases {buf : Bytes} (h : 10 ≤ buf.length) (authType : Byte) :
    readHeader15Rest buf authType =
      if authType = 0x00#8 then .ok (none, buf.getD 9 0#8, 10)
      else if buf.length < 26 then .error (.bufferTooShort .header)
      else .ok (some (bytesAt buf 9 16), buf.getD 25 0#8, 26) := by
  by_cases h0 : authType = 0x00#8
  · subst h0
    rw [if_pos rfl, readHeader15Rest, if_neg (by simp [authNone]), readU8_eq_ok (by omega)]
    rfl
  · rw [if_neg h0, readHeader15Rest, if_pos (by simpa [authNone] using h0)]
    split
    · rfl
    · rw [memRead_eq_ok (by omega), readU8_eq_ok (by omega)]
      rfl

theorem readHeader15_w15n {buf : Bytes} (h : 10 ≤ buf.length) (h0 : buf.getD 0 0#8 = 0x00#8) :
    readHeader15 buf = .ok ({ authType := 0x00#8, seq := u32At buf 1, sid := u32At buf 5, authCode := none,
                              payloadLen := buf.getD 9 0#8 }, 10) := by
  rw [readHeader15, if_neg (by omega), readU8_eq_ok (by omega), readU32_eq_ok (by omega), readU32_eq_ok (by omega), h0]
  simp only [bind, Except.bind]
  rw [readHeader15Rest_cases h, if_pos rfl]

theorem readHeader15_w15a_short {buf : Bytes} (h : buf.length < 26) (h0 : buf.getD 0 0#8 ≠ 0x00#8) :
    readHeader15 buf = .error (.bufferTooShort .header) := by
  by_cases h1 : buf.length < 10
  · exact readHeader15_short h1
  · rw [readHeader15, if_neg h1, readU8_eq_ok (by omega), readU32_eq_ok (by omega), readU32_eq_ok (by omega)]
    simp only [bind, Except.bind]
    rw [readHeader15Rest_cases (by omega), if_neg h0, if_pos h]

theorem readHeader15_w15a {buf : Bytes} (h : 26 ≤ buf.length) (h0 : buf.getD 0 0#8 ≠ 0x00#8) :
    readHeader15 buf = .ok ({ authType := buf.getD 0 0#8, seq := u32At buf 1, sid := u32At buf 5,
                              authCode := some (bytesAt buf 9 16), payloadLen := buf.getD 25 0#8 }, 26) := by
  rw [readHeader15, if_neg (by omega), readU8_eq_ok (by omega), readU32_eq_ok (by omega), readU32_eq_ok (by omega)]
  simp only [bind, Except.bind]
  rw [readHeader15Rest_cases (by omega), if_neg h0, if_neg (by omega)]

/-- What the reading of a v1.5 header answers, whatever the buffer. -/
theorem readHeader15_ok_cases {buf : Bytes} {h : H15} {n : Nat} (hr : readHeader15 buf = .ok (h, n)) :
    ValidH15 h ∧ n = hsize15 h ∧ n ≤ buf.length := by
  by_cases h0 : buf.getD 0 0#8 = 0x00#8
  · by_cases hl : buf.length < 10
    · rw [readHeader15_short hl] at hr; cases hr
    · rw [readHeader15_w15n (by omega) h0] at hr
      cases hr
      refine ⟨by simp [ValidH15], by simp [hsize15, authNone], by omega⟩
  · by_cases hl : buf.length < 26
    · rw [readHeader15_w15a_short hl h0] at hr; cases hr
    · rw [readHeader15_w15a (by omega) h0] at hr
      cases hr
      refine ⟨⟨by simp at h0 ⊢; exact h0, ?_⟩, by simp [hsize15, authNone] at h0 ⊢; simp [h0], by omega⟩
      simp [bytesAt]; omega

theorem readHeader15_error {buf : Bytes} {e : Error} (hr : readHeader15 buf = .error e) :
    e = .bufferTooShort .header := by
  by_cases h0 : buf.getD 0 0#8 = 0x00#8
  · by_cases hl : buf.length < 10
    · rw [readHeader15_short hl] at hr; cases hr; rfl
    · rw [readHeader15_w15n (by omega) h0] at hr; cases hr
  · by_cases hl : buf.length < 26
    · rw [readHeader15_w15a_short hl h0] at hr; cases hr; rfl
    · rw [readHeader15_w15a (by omega) h0] at hr; cases hr

theorem header15Bytes_length {h : H15} (hv : ValidH15 h) : (header15Bytes h).length = hsize15 h := by
  obtain ⟨h1, h2⟩ := hv
  cases hc : h.authCode with
  | none => simp [header15Bytes, hsize15, hc, authNone, h1.1 hc]
  | some c =>
    have h3 : h.authType ≠ 0x00#8 := fun h3 => by simp [h1.2 h3] at hc
    have h4 := h2 c hc
    simp [header15Bytes, hsize15, hc, authNone, h3, h4]

theorem readHeader15_header15Bytes {h : H15} (hv : ValidH15 h) (tail : Bytes) :
    readHeader15 (header15Bytes h ++ tail) = .ok (h, hsize15 h) := by
  have hl := header15Bytes_length hv
  obtain ⟨h1, h2⟩ := hv
  obtain ⟨authType, seq, sid, authCode, len⟩ := h
  have hs : u32At (header15Bytes ⟨authType, seq, sid, authCode, len⟩ ++ tail) 1 = seq := by
    simpa [header15Bytes] using u32At_le32 [authType] (le32 sid ++ authCode.getD [] ++ [len] ++ tail) seq
  have hi : u32At (header15Bytes ⟨authType, seq, sid, authCode, len⟩ ++ tail) 5 = sid := by
    simpa [header15Bytes] using u32At_le32 ([authType] ++ le32 seq) (authCode.getD [] ++ [len] ++ tail) sid
  cases authCode with
  | none =>
    have h3 : authType = 0x00#8 := h1.1 rfl
    subst h3
    rw [readHeader15_w15n (by simp [hl, hsize15, authNone]) (by simp [header15Bytes]), hs, hi]
    simp [header15Bytes, le32, hsize15, authNone]
  | some c =>
    have h3 : authType ≠ 0x00#8 := fun h3 => by simpa using h1.2 h3
    have h4 : c.length = 16 := h2 c rfl
    rw [readHeader15_w15a (by simp [hl, hsize15, authNone, h3]) (by simpa [header15Bytes] using h3), hs, hi]
    have h5 : bytesAt (header15Bytes ⟨authType, seq, sid, some c, len⟩ ++ tail) 9 16 = c := by
      simp [bytesAt, header15Bytes, le32, h4]
    have h6 : (header15Bytes ⟨authType, seq, sid, some c, len⟩ ++ tail).getD 25 0#8 = len := by
      simp [header15Bytes, le32, h4]
    rw [h5, h6]
    simp [header15Bytes, hsize15, authNone, h3]

/-! ### v2.0 headers (R141, R143, R144) -/
theorem readOem_cases (cfg : Config) (buf : Bytes) (pt : UInt6) :
    readOem cfg buf pt = if pt = cfg.ptOem then
        (if buf.length < 18 then .error (.bufferTooShort .header)
         else .ok (some { iana := u32At buf 2, pid := u16At buf 6 }, 8))
      else if buf.length < 12 then .error (.bufferTooShort .header) else .ok (none, 2) := by
  rw [readOem]
  split
  · split
    · rfl
    · rw [readU32_eq_ok (by omega), readU16_eq_ok (by omega)]; rfl
  · rfl

theorem readHeader20_short {cfg : Config} {buf : Bytes} (h : buf.length < 12) :
    readHeader20 cfg buf = .error (.bufferTooShort .header) := by
  rw [readHeader20]
  by_cases h1 : buf.length < 1
  · rw [readU8, memRead_eq_error (by omega)]; rfl
  rw [readU8_eq_ok (by omega)]
  by_cases h2 : buf.length < 2
  · rw [readU8, memRead_eq_error (by omega)]; rfl
  rw [readU8_eq_ok (by omega)]
  simp only [bind, Except.bind]
  rw [readOem_cases]
  split_ifs <;> first | rfl | omega

theorem readHeader20_w20o_short {cfg : Config} {buf : Bytes} (h : buf.length < 18)
    (hp : payloadTypeOf (buf.getD 1 0#8) = cfg.ptOem) :
    readHeader20 cfg buf = .error (.bufferTooShort .header) := by
  by_cases h1 : buf.length < 12
  · exact readHeader20_short h1
  rw [readHeader20, readU8_eq_ok (by omega), readU8_eq_ok (by omega)]
  simp only [bind, Except.bind]
  rw [readOem_cases, if_pos hp, if_pos h]

theorem readHeader20_w20 {cfg : Config} {buf : Bytes} (h : 12 ≤ buf.length)
    (hp : payloadTypeOf (buf.getD 1 0#8) ≠ cfg.ptOem) :
    readHeader20 cfg buf = .ok (⟨buf.getD 0 0#8, encFlag (buf.getD 1 0#8), authFlag (buf.getD 1 0#8),
      payloadTypeOf (buf.getD 1 0#8), none, u32At buf 2, u32At buf 6, u16At buf 10⟩, 12) := by
  rw [readHeader20, readU8_eq_ok (by omega), readU8_eq_ok (by omega)]
  simp only [bind, Except.bind]
  rw [readOem_cases, if_neg hp, if_neg (by omega)]
  simp only []
  rw [readU32_eq_ok (by omega), readU32_eq_ok (by omega), readU16_eq_ok (by omega)]

theorem readHeader20_w20o {cfg : Config} {buf : Bytes} (h : 18 ≤ buf.length)
    (hp : payloadTypeOf (buf.getD 1 0#8) = cfg.ptOem) :
    readHeader20 cfg buf = .ok (⟨buf.getD 0 0#8, encFlag (buf.getD 1 0#8), authFlag (buf.getD 1 0#8),
      payloadTypeOf (buf.getD 1 0#8), some ⟨u32At buf 2, u16At buf 6⟩, u32At buf 8, u32At buf 12, u16At buf 16⟩, 18) := by
  rw [readHeader20, readU8_eq_ok (by omega), readU8_eq_ok (by omega)]
  simp only [bind, Except.bind]
  rw [readOem_cases, if_pos hp, if_neg (by omega)]
  simp only []
  rw [readU32_eq_ok (by omega), readU32_eq_ok (by omega), readU16_eq_ok (by omega)]

theorem readHeader20_error {cfg : Config} {buf : Bytes} {e : Error} (hr : readHeader20 cfg buf = .error e) :
    e = .bufferTooShort .header := by
  by_cases hp : payloadTypeOf (buf.getD 1 0#8) = cfg.ptOem
  · by_cases hl : buf.length < 18
    · rw [readHeader20_w20o_short hl hp] at hr; cases hr; rfl
    · rw [readHeader20_w20o (by omega) hp] at hr; cases hr
  · by_cases hl : buf.length < 12
    · rw [readHeader20_short hl] at hr; cases hr; rfl
    · rw [readHeader20_w20 (by omega) hp] at hr; cases hr

theorem readHeader20_ok_cases {cfg : Config} {buf : Bytes} {h : H20} {n : Nat} (hr : readHeader20 cfg buf = .ok (h, n)) :
    (h.oem.isSome ↔ h.pt = cfg.ptOem) ∧ n = hsize20 cfg h ∧ n ≤ buf.length := by
  by_cases hp : payloadTypeOf (buf.getD 1 0#8) = cfg.ptOem
  · by_cases hl : buf.length < 18
    · rw [readHeader20_w20o_short hl hp] at hr; cases hr
    · rw [readHeader20_w20o (by omega) hp] at hr
      cases hr
      exact ⟨by simpa using hp, by rw [hsize20, if_pos hp], by omega⟩
  · by_cases hl : buf.length < 12
    · rw [readHeader20_short hl] at hr; cases hr
    · rw [readHeader20_w20 (by omega) hp] at hr
      cases hr
      exact ⟨by simpa using hp, by rw [hsize20, if_neg hp], by omega⟩

theorem header20Bytes_length {cfg : Config} {h : H20} (hv : h.oem.isSome ↔ h.pt = cfg.ptOem) :
    (header20Bytes h).length = hsize20 cfg h := by
  cases hc : h.oem with
  | none =>
    have h1 : h.pt ≠ cfg.ptOem := fun h1 => by simpa [hc] using hv.2 h1
    simp [header20Bytes, oemBytes, hsize20, hc, h1]
  | some o => simp [header20Bytes, oemBytes, hsize20, hc, hv.1 (by simp [hc])]

/-- A packed v2.0 header reads back, byte 0 and the reserved IANA byte as they stand (R143, R89). -/
theorem readHeader20_header20Bytes {cfg : Config} {h : H20} (hv : h.oem.isSome ↔ h.pt = cfg.ptOem) (tail : Bytes) :
    readHeader20 cfg (header20Bytes h ++ tail) = .ok (h, hsize20 cfg h) := by
  have hl := header20Bytes_length hv
  obtain ⟨authType, enc, auth, pt, oem, sid, seq, len⟩ := h
  cases oem with
  | none =>
    have h1 : pt ≠ cfg.ptOem := fun h1 => by simpa using hv.2 h1
    rw [readHeader20_w20 (by simp [hl, hsize20, h1]) (by simpa [header20Bytes] using h1)]
    have a1 : u32At (header20Bytes ⟨authType, enc, auth, pt, none, sid, seq, len⟩ ++ tail) 2 = sid := by
      simpa [header20Bytes, oemBytes] using
        u32At_le32 [authType, flagsByte enc auth pt] (le32 seq ++ le16 len ++ tail) sid
    have a2 : u32At (header20Bytes ⟨authType, enc, auth, pt, none, sid, seq, len⟩ ++ tail) 6 = seq := by
      simpa [header20Bytes, oemBytes] using
        u32At_le32 ([authType, flagsByte enc auth pt] ++ le32 sid) (le16 len ++ tail) seq
    have a3 : u16At (header20Bytes ⟨authType, enc, auth, pt, none, sid, seq, len⟩ ++ tail) 10 = len := by
      simpa [header20Bytes, oemBytes] using
        u16At_le16 ([authType, flagsByte enc auth pt] ++ le32 sid ++ le32 seq) tail len
    rw [a1, a2, a3]
    simp [header20Bytes, hsize20, h1]
  | some o =>
    have h1 : pt = cfg.ptOem := hv.1 rfl
    rw [readHeader20_w20o (by rw [List.length_append, hl, hsize20, if_pos h1]; omega) (by simpa [header20Bytes] using h1)]
    obtain ⟨iana, pid⟩ := o
    have a1 : u32At (header20Bytes ⟨authType, enc, auth, pt, some ⟨iana, pid⟩, sid, seq, len⟩ ++ tail) 8 = sid := by
      simpa [header20Bytes, oemBytes] using
        u32At_le32 ([authType, flagsByte enc auth pt] ++ le32 iana ++ le16 pid) (le32 seq ++ le16 len ++ tail) sid
    have a2 : u32At (header20Bytes ⟨authType, enc, auth, pt, some ⟨iana, pid⟩, sid, seq, len⟩ ++ tail) 12 = seq := by
      simpa [header20Bytes, oemBytes] using
        u32At_le32 ([authType, flagsByte enc auth pt] ++ le32 iana ++ le16 pid ++ le32 sid) (le16 len ++ tail) seq
    have a3 : u16At (header20Bytes ⟨authType, enc, auth, pt, some ⟨iana, pid⟩, sid, seq, len⟩ ++ tail) 16 = len := by
      simpa [header20Bytes, oemBytes] using
        u16At_le16 ([authType, flagsByte enc auth pt] ++ le32 iana ++ le16 pid ++ le32 sid ++ le32 seq) tail len
    have a4 : u32At (header20Bytes ⟨authType, enc, auth, pt, some ⟨iana, pid⟩, sid, seq, len⟩ ++ tail) 2 = iana := by
      simpa [header20Bytes, oemBytes] using
        u32At_le32 [authType, flagsByte enc auth pt] (le16 pid ++ le32 sid ++ le32 seq ++ le16 len ++ tail) iana
    have a5 : u16At (header20Bytes ⟨authType, enc, auth, pt, some ⟨iana, pid⟩, sid, seq, len⟩ ++ tail) 6 = pid := by
      simpa [header20Bytes, oemBytes] using
        u16At_le16 ([authType, flagsByte enc auth pt] ++ le32 iana) (le32 sid ++ le32 seq ++ le16 len ++ tail) pid
    rw [a1, a2, a3, a4, a5]
    simp [header20Bytes, hsize20, h1]

/-! ### Trailers (R166, R168, R169) -/
theorem readTrailer_eq_ok {buf : Bytes} {off p : Nat} (h : off + p + 2 ≤ buf.length) :
    readTrailer buf off p = .ok (⟨bytesAt buf off p, buf.getD (off + p) 0#8, buf.getD (off + p + 1) 0#8,
      bytesAt buf (off + p + 2) 16⟩, off + p + 2 + min 16 (buf.length - (off + p + 2))) := by
  rw [readTrailer, memRead_eq_ok (by omega), readU8_eq_ok (by omega), readU8_eq_ok (by omega), readUpto_eq_ok (by omega)]
  rfl

theorem readTrailer_eq_error {buf : Bytes} {off p : Nat} (h : buf.length < off + p + 2) :
    readTrailer buf off p = .error (.bufferTooShort .trailer) := by
  rw [readTrailer]
  by_cases h1 : buf.length < off + p
  · rw [memRead_eq_error h1]; rfl
  rw [memRead_eq_ok (by omega)]
  by_cases h2 : buf.length < off + p + 1
  · rw [readU8, memRead_eq_error h2]; rfl
  rw [readU8_eq_ok (by omega), readU8, memRead_eq_error (by omega)]; rfl

theorem readTrailer_trailerBytes (t : Trl) (pre : Bytes) (h : t.authCode.length ≤ 16) :
    readTrailer (pre ++ trailerBytes t) pre.length t.pad.length = .ok (t, pre.length + tsize t) := by
  rw [readTrailer_eq_ok (by simp [trailerBytes]; omega)]
  obtain ⟨pad, padLen, nh, code⟩ := t
  simp only at h
  have a1 : bytesAt (pre ++ trailerBytes ⟨pad, padLen, nh, code⟩) pre.length pad.length = pad := by
    simp [bytesAt, trailerBytes]
  have a2 : (pre ++ trailerBytes ⟨pad, padLen, nh, code⟩).getD (pre.length + pad.length) 0#8 = padLen := by
    simp [trailerBytes]
  have a3 : (pre ++ trailerBytes ⟨pad, padLen, nh, code⟩).getD (pre.length + pad.length + 1) 0#8 = nh := by
    rw [Nat.add_assoc]
    simp [trailerBytes]
  have a4 : bytesAt (pre ++ trailerBytes ⟨pad, padLen, nh, code⟩) (pre.length + pad.length + 2) 16 = code := by
    rw [bytesAt, Nat.add_assoc, ← List.drop_drop, List.drop_left]
    simp only [trailerBytes, List.append_assoc]
    rw [← List.drop_drop, List.drop_left]
    simpa using h
  have a5 : (pre ++ trailerBytes ⟨pad, padLen, nh, code⟩).length - (pre.length + pad.length + 2) = code.length := by
    simp [trailerBytes]; omega
  simp only [a1, a2, a3, a4, a5, tsize, Nat.min_eq_right h]
  rw [show pre.length + pad.length + 2 + code.length = pre.length + (pad.length + 2 + code.length) by omega]

/-! ### Frames (R181, R183, R185) -/

theorem readFrame15_eq (buf : Bytes) :
    readFrame15 buf = match readHeader15 buf with
      | .error e => .error e
      | .ok (h, size) =>
        if buf.length < size + h.payloadLen.toNat then .error (.bufferTooShort .payload)
        else .ok { hdr := h, payload := bytesAt buf size h.payloadLen.toNat } := by
  rw [readFrame15]
  cases readHeader15 buf with
  | error e => rfl
  | ok r =>
    obtain ⟨h, size⟩ := r
    simp only [bind, Except.bind]
    by_cases hl : buf.length < size + h.payloadLen.toNat
    · rw [if_pos hl, memRead_eq_error hl]
    · rw [if_neg hl, memRead_eq_ok (by omega)]; rfl

theorem readFrame20_eq (cfg : Config) (buf : Bytes) :
    readFrame20 cfg buf = match readHeader20 cfg buf with
      | .error e => .error e
      | .ok (h, size) =>
        if buf.length < size + h.payloadLen.toNat then .error (.bufferTooShort .payload)
        else match readFrameTrailer buf h (size + h.payloadLen.toNat) with
          | .error e => .error e
          | .ok tr => .ok { hdr := h, payload := bytesAt buf size h.payloadLen.toNat, trailer := tr } := by
  rw [readFrame20]
  cases readHeader20 cfg buf with
  | error e => rfl
  | ok r =>
    obtain ⟨h, size⟩ := r
    simp only [bind, Except.bind]
    by_cases hl : buf.length < size + h.payloadLen.toNat
    · rw [if_pos hl, memRead_eq_error hl]
    · rw [if_neg hl, memRead_eq_ok (by omega)]
      simp only []
      cases readFrameTrailer buf h (size + h.payloadLen.toNat) <;> rfl

theorem readFrameTrailer_none {buf : Bytes} {h : H20} {off : Nat} (hx : trailerExpected h = false) :
    readFrameTrailer buf h off = .ok none := by simp [readFrameTrailer, hx]

theorem readFrameTrailer_error {buf : Bytes} {h : H20} {off : Nat} {e : Error}
    (hr : readFrameTrailer buf h off = .error e) : e = .bufferTooShort .trailer := by
  rw [readFrameTrailer] at hr
  split at hr
  · by_cases hl : buf.length < off + padSize off + 2
    · rw [readTrailer_eq_error hl] at hr; cases hr; rfl
    · rw [readTrailer_eq_ok (by omega)] at hr; cases hr
  · cases hr

theorem readFrameTrailer_ok {buf : Bytes} {h : H20} {off : Nat} {tr : Option Trl}
    (hr : readFrameTrailer buf h off = .ok tr) :
    (tr.isSome ↔ h.auth = true ∧ h.sid ≠ 0#32) ∧ ∀ t ∈ tr, t.pad.length = padSize off ∧ t.authCode.length ≤ 16 := by
  rw [← trailerExpected_iff]
  rw [readFrameTrailer] at hr
  split at hr
  · next hx =>
    by_cases hl : buf.length < off + padSize off + 2
    · rw [readTrailer_eq_error hl] at hr; cases hr
    · rw [readTrailer_eq_ok (by omega)] at hr
      cases hr
      refine ⟨by simp [hx], ?_⟩
      simp [bytesAt]; omega
  · next hx => cases hr; simp [hx]

theorem readFrame15_ok_cases {buf : Bytes} {f : S15} (hr : readFrame15 buf = .ok f) : ValidS15 f := by
  rw [readFrame15_eq] at hr
  cases hh : readHeader15 buf with
  | error e => rw [hh] at hr; cases hr
  | ok r =>
    obtain ⟨h, size⟩ := r
    rw [hh] at hr
    simp only [] at hr
    split at hr
    · cases hr
    · cases hr
      refine ⟨(readHeader15_ok_cases hh).1, ?_⟩
      simp [bytesAt]; omega

theorem readFrame15_error {buf : Bytes} {e : Error} (hr : readFrame15 buf = .error e) : ∃ tag, e = .bufferTooShort tag := by
  rw [readFrame15_eq] at hr
  cases hh : readHeader15 buf with
  | error e' => rw [hh] at hr; cases hr; exact ⟨_, readHeader15_error hh⟩
  | ok r =>
    obtain ⟨h, size⟩ := r
    rw [hh] at hr
    simp only [] at hr
    split at hr
    · cases hr; exact ⟨_, rfl⟩
    · cases hr

theorem readFrame20_ok_cases {cfg : Config} {buf : Bytes} {f : S20} (hr : readFrame20 cfg buf = .ok f) :
    f.hdr.payloadLen.toNat = f.payload.length ∧ TrailerFits cfg f := by
  rw [readFrame20_eq] at hr
  cases hh : readHeader20 cfg buf with
  | error e => rw [hh] at hr; cases hr
  | ok r =>
    obtain ⟨h, size⟩ := r
    rw [hh] at hr
    simp only [] at hr
    split at hr
    · cases hr
    · next hl =>
      cases ht : readFrameTrailer buf h (size + h.payloadLen.toNat) with
      | error e => rw [ht] at hr; cases hr
      | ok tr =>
        rw [ht] at hr
        cases hr
        have hlen : (bytesAt buf size h.payloadLen.toNat).length = h.payloadLen.toNat := by simp [bytesAt]; omega
        obtain ⟨h1, h2⟩ := readFrameTrailer_ok ht
        refine ⟨hlen.symm, h1, fun t ht => ?_⟩
        rw [(h2 t ht).1, hlen, (readHeader20_ok_cases hh).2.1, hsize20]

theorem readFrame20_error {cfg : Config} {buf : Bytes} {e : Error} (hr : readFrame20 cfg buf = .error e) :
    ∃ tag, e = .bufferTooShort tag := by
  rw [readFrame20_eq] at hr
  cases hh : readHeader20 cfg buf with
  | error e' => rw [hh] at hr; cases hr; exact ⟨_, readHeader20_error hh⟩
  | ok r =>
    obtain ⟨h, size⟩ := r
    rw [hh] at hr
    simp only [] at hr
    split at hr
    · cases hr; exact ⟨_, rfl⟩
    · cases ht : readFrameTrailer buf h (size + h.payloadLen.toNat) with
      | error e => rw [ht] at hr; cases hr; exact ⟨_, readFrameTrailer_error ht⟩
      | ok tr => rw [ht] at hr; cases hr

/-! ### Each reading in one equation, and packed frames read back (R185) -/


/-- H15_UNPACK's reading in one equation (R121). -/
theorem readHeader15_eq (buf : Bytes) :
    readHeader15 buf = if buf.length < size15At buf then .error (.bufferTooShort .header)
      else .ok (h15At buf, size15At buf) := by
  by_cases h0 : buf.getD 0 0#8 = 0x00#8
  · have hs : size15At buf = 10 := by rw [size15At, if_pos h0]
    rw [hs]
    split
    · next h => exact readHeader15_short h
    · next h => rw [readHeader15_w15n (by omega) h0, h15At, hs, h0, if_pos rfl]
  · have hs : size15At buf = 26 := by rw [size15At, if_neg h0]
    rw [hs]
    split
    · next h => exact readHeader15_w15a_short h h0
    · next h => rw [readHeader15_w15a (by omega) h0, h15At, hs, if_neg h0]

/-- H20_UNPACK's reading in one equation (R141). -/
theorem readHeader20_eq (cfg : Config) (buf : Bytes) :
    readHeader20 cfg buf = if buf.length < size20At cfg buf then .error (.bufferTooShort .header)
      else .ok (h20At cfg buf, size20At cfg buf) := by
  by_cases h0 : (buf.getD 1 0#8).extractLsb' 0 6 = cfg.ptOem
  · have hs : size20At cfg buf = 18 := by rw [size20At, if_pos h0]
    rw [hs]
    split
    · next h => exact readHeader20_w20o_short h h0
    · next h => rw [readHeader20_w20o (by omega) h0, h20At, hs, if_pos h0]; rfl
  · have hs : size20At cfg buf = 12 := by rw [size20At, if_neg h0]
    rw [hs]
    split
    · next h => exact readHeader20_short h
    · next h => rw [readHeader20_w20 (by omega) h0, h20At, hs, if_neg h0]; rfl

/-- S15_UNPACK's reading in one equation (R181). -/
theorem readFrame15_eq_at (buf : Bytes) :
    readFrame15 buf = if buf.length < size15At buf then .error (.bufferTooShort .header)
      else if buf.length < size15At buf + (h15At buf).payloadLen.toNat then .error (.bufferTooShort .payload)
      else .ok (s15At buf) := by
  rw [readFrame15_eq, readHeader15_eq]
  by_cases h : buf.length < size15At buf
  · rw [if_pos h, if_pos h]
  · rw [if_neg h, if_neg h]; rfl

/-- S20_UNPACK's reading in one equation (R183). -/
theorem readFrame20_eq_at (cfg : Config) (buf : Bytes) :
    readFrame20 cfg buf = if buf.length < size20At cfg buf then .error (.bufferTooShort .header)
      else if buf.length < end20At cfg buf then .error (.bufferTooShort .payload)
      else if (h20At cfg buf).auth = true ∧ (h20At cfg buf).sid ≠ 0#32 ∧
          buf.length < end20At cfg buf + (4 - end20At cfg buf % 4) % 4 + 2 then .error (.bufferTooShort .trailer)
      else .ok (s20At cfg buf) := by
  rw [readFrame20_eq, readHeader20_eq]
  by_cases h : buf.length < size20At cfg buf
  · rw [if_pos h, if_pos h]
  · rw [if_neg h, if_neg h]
    simp only []
    rw [show size20At cfg buf + (h20At cfg buf).payloadLen.toNat = end20At cfg buf from rfl]
    by_cases h2 : buf.length < end20At cfg buf
    · rw [if_pos h2, if_pos h2]
    · rw [if_neg h2, if_neg h2, readFrameTrailer]
      by_cases hx : (h20At cfg buf).auth = true ∧ (h20At cfg buf).sid ≠ 0#32
      · rw [if_pos ((trailerExpected_iff _).2 hx)]
        by_cases hl : buf.length < end20At cfg buf + (4 - end20At cfg buf % 4) % 4 + 2
        · rw [if_pos ⟨hx.1, hx.2, hl⟩, readTrailer_eq_error (by rw [padSize]; exact hl)]; rfl
        · rw [if_neg (fun h => hl h.2.2), readTrailer_eq_ok (by rw [padSize]; omega), s20At, if_pos hx]; rfl
      · rw [if_neg (fun h => hx ((trailerExpected_iff _).1 h)), if_neg (fun h => hx ⟨h.1, h.2.1⟩), s20At, if_neg hx]

/-- A packed v1.5 frame reads back, whatever follows it (R185, R186). -/
theorem readFrame15_frame15Bytes {f : S15} (hv : ValidS15 f) (tail : Bytes) :
    readFrame15 (frame15Bytes f ++ tail) = .ok f := by
  rw [readFrame15_eq, frame15Bytes, List.append_assoc, readHeader15_header15Bytes hv.1]
  have hl := header15Bytes_length hv.1
  simp only []
  rw [if_neg (by simp [hl, hv.2])]
  simp [bytesAt, ← hl, hv.2]

theorem frame20_end {cfg : Config} {f : S20} (hv : ValidS20 cfg f) :
    (header20Bytes f.hdr ++ f.payload).length = hsize20 cfg f.hdr + f.hdr.payloadLen.toNat := by
  rw [List.length_append, header20Bytes_length hv.1.2.1, hv.2.1]

/-- A packed v2.0 frame reads back (R185). -/
theorem readFrame20_frame20Bytes {cfg : Config} {f : S20} (hv : ValidS20 cfg f) :
    readFrame20 cfg (frame20Bytes f) = .ok f := by
  have hl := header20Bytes_length hv.1.2.1
  have he := frame20_end hv
  rw [readFrame20_eq, frame20Bytes, List.append_assoc, readHeader20_header20Bytes hv.1.2.1]
  simp only []
  rw [if_neg (by simp [hl, hv.2.1])]
  have hp : bytesAt (header20Bytes f.hdr ++ (f.payload ++ trailerPart f.trailer)) (hsize20 cfg f.hdr)
      f.hdr.payloadLen.toNat = f.payload := by simp [bytesAt, ← hl, hv.2.1]
  rw [hp, ← List.append_assoc, readFrameTrailer, ← he]
  cases ht : f.trailer with
  | none =>
    have : ¬ trailerExpected f.hdr = true := by rw [trailerExpected_iff, ← hv.2.2.1.1]; simp [ht]
    rw [if_neg this]
    simp only [← ht]
  | some t =>
    have : trailerExpected f.hdr = true := by rw [trailerExpected_iff, ← hv.2.2.1.1]; simp [ht]
    have h1 := hv.2.2.1.2 t ht
    have h2 := hv.2.2.2 t ht
    rw [if_pos this, List.length_append, hl, hsize20, ← h1, trailerPart, ← hsize20, ← hl, ← List.length_append,
      readTrailer_trailerBytes t _ h2.2.2.2.2]
    simp only [Except.map, ← ht]

end Sys2Proof.Machine
end

