-- ==== Sys2Proof/Laws/Ops.lean ====
section
/-! SUPPORT. What each shared operation of the machine can do, said once: the two cases of the context check, every way
GEN15 and GEN20 end, and what none of them changes (R42, R231, R233). -/

namespace Sys2Proof.Machine

/-- The context check goes on or ends in NoContext (R263). -/
theorem State.needCtx_cases (s goOn : State) :
    (s.ctx.live = true ∧ s.needCtx goOn = goOn) ∨ (s.ctx.live = false ∧ s.needCtx goOn = s.raiseError .noContext []) := by
  cases h : s.ctx.live
  · exact .inr ⟨rfl, State.needCtx_of_dead h⟩
  · exact .inl ⟨rfl, State.needCtx_of_live h⟩

/-- A pack is refused by its first broken check or emits its bytes (R271). -/
theorem State.packOr_cases (s : State) (x : Option Check) (b : Bytes) :
    (∃ c, x = some c ∧ s.packOr x b = s.refuse (.illFormed c)) ∨ (x = none ∧ s.packOr x b = s.finish (.bytes b) []) := by
  cases x with
  | none => exact .inr ⟨rfl, rfl⟩
  | some c => exact .inl ⟨c, rfl, rfl⟩

@[simp] theorem State.settle_ctx (s : State) (x : Except Error Output) : (s.settle x).ctx = s.ctx := by cases x <;> rfl
@[simp] theorem State.packOr_ctx (s : State) (x : Option Check) (b : Bytes) : (s.packOr x b).ctx = s.ctx := by
  cases x <;> rfl

/-- Every way AC's answer is taken (R231, R262). -/
theorem State.gen15WithAnswer_cases (raw : Bytes) (sid seq : U32) (a : Answer Bytes) (s : State) :
    (a = .fail ∧ s.gen15WithAnswer raw sid seq a =
      s.raiseError (.collaboratorFailure .ac .failed) [.ac raw .fail]) ∨
    (∃ code, a = .ok code ∧ code.length ≠ 16 ∧ s.gen15WithAnswer raw sid seq a =
      s.raiseError (.collaboratorFailure .ac .badResult) [.ac raw (.ok code)]) ∨
    (∃ code, a = .ok code ∧ code.length = 16 ∧ s.gen15WithAnswer raw sid seq a =
      s.finish (.bytes (gen15Frame s.ctx.v15AuthType seq sid (some code) raw)) [.ac raw (.ok code)]) := by
  cases a with
  | fail => exact .inl ⟨rfl, rfl⟩
  | ok code =>
    by_cases h : code.length = 16
    · exact .inr (.inr ⟨code, rfl, h, if_neg (fun h' => h' h)⟩)
    · exact .inr (.inl ⟨code, rfl, h, if_pos h⟩)

/-- Every way GEN15 ends (R231). -/
theorem State.gen15_cases (raw : Bytes) (s : State) :
    (s.ctx.live = false ∧ s.gen15 raw = s.raiseError .noContext []) ∨
    (s.ctx.live = true ∧ 255 < raw.length ∧ s.gen15 raw = s.raiseError (.payloadTooLong .limit255) []) ∨
    (s.ctx.live = true ∧ raw.length ≤ 255 ∧ ¬ (s.ctx.v15Active = true ∧ s.ctx.v15AuthType ≠ 0x00#8) ∧
      s.gen15 raw = s.finish (.bytes (gen15Frame 0x00#8 0#32 0#32 none raw)) []) ∨
    (s.ctx.live = true ∧ raw.length ≤ 255 ∧ (s.ctx.v15Active = true ∧ s.ctx.v15AuthType ≠ 0x00#8) ∧
      ((s.ctx.v15Sid = none ∧ s.gen15 raw = s.raiseError (.unwrittenContext .v15Sid) []) ∨
       (∃ sid, s.ctx.v15Sid = some sid ∧ s.ctx.v15Seq = none ∧
         s.gen15 raw = s.raiseError (.unwrittenContext .v15Seq) []) ∨
       (∃ sid seq, s.ctx.v15Sid = some sid ∧ s.ctx.v15Seq = some seq ∧
         s.gen15 raw = s.afterAc.gen15WithAnswer raw sid seq s.acAnswer))) := by
  obtain ⟨hl, h⟩ | ⟨hl, h⟩ := State.needCtx_cases s
    (if raw.length > LengthLimit.limit255.value then s.raiseError (.payloadTooLong .limit255) []
     else if s.ctx.v15Active ∧ s.ctx.v15AuthType ≠ authNone then s.gen15Authenticated raw
     else s.finish (.bytes (gen15Frame authNone 0#32 0#32 none raw)) [])
  · right
    rw [State.gen15, h]
    by_cases h1 : raw.length > LengthLimit.limit255.value
    · exact .inl ⟨hl, h1, if_pos h1⟩
    have h1' : raw.length ≤ 255 := Nat.not_lt.1 h1
    rw [if_neg h1]
    by_cases h2 : s.ctx.v15Active = true ∧ s.ctx.v15AuthType ≠ authNone
    · refine .inr (.inr ⟨hl, h1', h2, ?_⟩)
      rw [if_pos h2]
      cases h3 : s.ctx.v15Sid with
      | none => exact .inl ⟨rfl, by simp only [State.gen15Authenticated, h3]⟩
      | some sid =>
        cases h4 : s.ctx.v15Seq with
        | none => exact .inr (.inl ⟨sid, rfl, rfl, by simp only [State.gen15Authenticated, h3, h4]⟩)
        | some seq => exact .inr (.inr ⟨sid, seq, rfl, rfl, by simp only [State.gen15Authenticated, h3, h4]⟩)
    · exact .inr (.inl ⟨hl, h1', h2, if_neg h2⟩)
  · exact .inl ⟨hl, h⟩

/-- Every way TRLGEN's answer is taken (R233, R234, R262). -/
theorem State.gen20WithTrailer_cases (hb p : Bytes) (a : Answer Trl) (trace : List Event) (s : State) :
    (a = .fail ∧ s.gen20WithTrailer hb p a trace =
      s.raiseError (.collaboratorFailure .trlgen .failed) (trace ++ [.trlgen hb p .fail])) ∨
    (∃ t, a = .ok t ∧ ¬ (ValidTrl t ∧ t.pad.length = padSize (hb.length + p.length)) ∧
      s.gen20WithTrailer hb p a trace =
        s.raiseError (.collaboratorFailure .trlgen .badResult) (trace ++ [.trlgen hb p (.ok t)])) ∨
    (∃ t, a = .ok t ∧ ValidTrl t ∧ t.pad.length = padSize (hb.length + p.length) ∧
      s.gen20WithTrailer hb p a trace =
        s.finish (.bytes (hb ++ p ++ trailerBytes t)) (trace ++ [.trlgen hb p (.ok t)])) := by
  cases a with
  | fail => exact .inl ⟨rfl, rfl⟩
  | ok t =>
    by_cases h : trailerAccepted t hb p = true
    · obtain ⟨h1, h2⟩ := (trailerAccepted_iff t hb p).1 h
      exact .inr (.inr ⟨t, rfl, h1, h2, if_pos h⟩)
    · exact .inr (.inl ⟨t, rfl, fun h' => h ((trailerAccepted_iff t hb p).2 h'), if_neg h⟩)

/-- Every way GEN20 ends once its wire payload is known (R233, R234). -/
theorem State.gen20Sealed_cases (active : Bool) (pt : UInt6) (oem : Option Oem) (sid seq : U32) (p : Bytes)
    (trace : List Event) (s : State) :
    (65535 < p.length ∧ s.gen20Sealed active pt oem sid seq p trace =
      s.raiseError (.payloadTooLong .limit65535) trace) ∨
    (p.length ≤ 65535 ∧ ¬ (active = true ∧ sid ≠ 0#32) ∧ s.gen20Sealed active pt oem sid seq p trace =
      s.finish (.bytes (header20Bytes (gen20Header active pt oem sid seq p) ++ p)) trace) ∨
    (p.length ≤ 65535 ∧ (active = true ∧ sid ≠ 0#32) ∧ s.gen20Sealed active pt oem sid seq p trace =
      s.afterTrlgen.gen20WithTrailer (header20Bytes (gen20Header active pt oem sid seq p)) p s.trlgenAnswer trace) := by
  by_cases h : p.length > LengthLimit.limit65535.value
  · exact .inl ⟨h, if_pos h⟩
  have h' : p.length ≤ 65535 := Nat.not_lt.1 h
  have hx := trailerExpected_iff (gen20Header active pt oem sid seq p)
  by_cases h2 : trailerExpected (gen20Header active pt oem sid seq p) = true
  · exact .inr (.inr ⟨h', hx.1 h2, by rw [State.gen20Sealed, if_neg h]; exact if_pos h2⟩)
  · exact .inr (.inl ⟨h', fun h3 => h2 (hx.2 h3), by rw [State.gen20Sealed, if_neg h]; exact if_neg h2⟩)

/-- Every way GEN20 in Active ends (R233). -/
theorem State.gen20Active_cases (raw : Bytes) (pt : UInt6) (oem : Option Oem) (s : State) :
    (s.ctx.v20Sid = none ∧ s.gen20Active raw pt oem = s.raiseError (.unwrittenContext .v20Sid) []) ∨
    (∃ sid, s.ctx.v20Sid = some sid ∧ s.ctx.v20Seq = none ∧
      s.gen20Active raw pt oem = s.raiseError (.unwrittenContext .v20Seq) []) ∨
    (∃ sid seq, s.ctx.v20Sid = some sid ∧ s.ctx.v20Seq = some seq ∧ s.encAnswer = .fail ∧
      s.gen20Active raw pt oem =
        s.afterEnc.raiseError (.collaboratorFailure .enc .failed) [.enc raw s.ctx.v20Keys .fail]) ∨
    (∃ sid seq p, s.ctx.v20Sid = some sid ∧ s.ctx.v20Seq = some seq ∧ s.encAnswer = .ok p ∧
      s.gen20Active raw pt oem =
        s.afterEnc.gen20Sealed true pt oem sid seq p [.enc raw s.ctx.v20Keys (.ok p)]) := by
  cases h1 : s.ctx.v20Sid with
  | none => exact .inl ⟨rfl, by simp only [State.gen20Active, h1]⟩
  | some sid =>
    cases h2 : s.ctx.v20Seq with
    | none => exact .inr (.inl ⟨sid, rfl, rfl, by simp only [State.gen20Active, h1, h2]⟩)
    | some seq =>
      cases h3 : s.encAnswer with
      | fail =>
        exact .inr (.inr (.inl ⟨sid, seq, rfl, rfl, rfl, by
          simp only [State.gen20Active, h1, h2, h3, State.gen20WithPayload, State.afterEnc_ctx]⟩))
      | ok p =>
        exact .inr (.inr (.inr ⟨sid, seq, p, rfl, rfl, rfl, by
          simp only [State.gen20Active, h1, h2, h3, State.gen20WithPayload, State.afterEnc_ctx]⟩))

/-- Every way GEN20 ends (R233, R268). -/
theorem State.gen20_cases (raw : Bytes) (pt : UInt6) (oem : Option Oem) (s : State) :
    (∃ name, oemShape s.cfg pt oem = some name ∧ ¬ OemFits s.cfg pt oem ∧
      s.gen20 raw pt oem = s.refuse (.operandShape name)) ∨
    (OemFits s.cfg pt oem ∧ s.ctx.live = false ∧ s.gen20 raw pt oem = s.raiseError .noContext []) ∨
    (OemFits s.cfg pt oem ∧ s.ctx.live = true ∧ s.ctx.v20State = .active ∧
      s.gen20 raw pt oem = s.gen20Active raw pt oem) ∨
    (OemFits s.cfg pt oem ∧ s.ctx.live = true ∧ s.ctx.v20State ≠ .active ∧
      s.gen20 raw pt oem = s.gen20Sealed false pt oem 0#32 0#32 raw []) := by
  cases h : oemShape s.cfg pt oem with
  | some name =>
    have hn : ¬ OemFits s.cfg pt oem := fun hf => by simp [(oemShape_none_iff s.cfg pt oem).2 hf] at h
    exact .inl ⟨name, rfl, hn, by simp only [State.gen20, h]⟩
  | none =>
    right
    have hf := (oemShape_none_iff s.cfg pt oem).1 h
    simp only [State.gen20, h]
    obtain ⟨hl, hg⟩ | ⟨hl, hg⟩ := State.needCtx_cases s
      (if s.ctx.v20State = .active then s.gen20Active raw pt oem else s.gen20Sealed false pt oem 0#32 0#32 raw [])
    · rw [hg]
      by_cases ha : s.ctx.v20State = .active
      · exact .inr (.inl ⟨hf, hl, ha, if_pos ha⟩)
      · exact .inr (.inr ⟨hf, hl, ha, if_neg ha⟩)
    · exact .inl ⟨hf, hl, hg⟩

/-! ### What the generators leave alone (R42, R266) -/

theorem State.gen15WithAnswer_keeps (raw : Bytes) (sid seq : U32) (a : Answer Bytes) (s : State) :
    ∃ r, s.gen15WithAnswer raw sid seq a = { s with report := some r } := by
  obtain ⟨-, h⟩ | ⟨_, -, -, h⟩ | ⟨_, -, -, h⟩ := State.gen15WithAnswer_cases raw sid seq a s <;> rw [h] <;> exact ⟨_, rfl⟩

theorem State.gen20WithTrailer_keeps (hb p : Bytes) (a : Answer Trl) (trace : List Event) (s : State) :
    ∃ r, s.gen20WithTrailer hb p a trace = { s with report := some r } := by
  obtain ⟨-, h⟩ | ⟨_, -, -, h⟩ | ⟨_, -, -, -, h⟩ := State.gen20WithTrailer_cases hb p a trace s <;>
    rw [h] <;> exact ⟨_, rfl⟩

@[simp] theorem State.gen15_ctx (raw : Bytes) (s : State) : (s.gen15 raw).ctx = s.ctx := by
  obtain ⟨-, h⟩ | ⟨-, -, h⟩ | ⟨-, -, -, h⟩ | ⟨-, -, -, ⟨-, h⟩ | ⟨_, -, -, h⟩ | ⟨sid, seq, -, -, h⟩⟩ :=
    State.gen15_cases raw s <;> rw [h] <;> try rfl
  obtain ⟨r, hr⟩ := State.gen15WithAnswer_keeps raw sid seq s.acAnswer s.afterAc
  rw [hr]; rfl

@[simp] theorem State.gen20Sealed_ctx (active : Bool) (pt : UInt6) (oem : Option Oem) (sid seq : U32) (p : Bytes)
    (trace : List Event) (s : State) : (s.gen20Sealed active pt oem sid seq p trace).ctx = s.ctx := by
  obtain ⟨-, h⟩ | ⟨-, -, h⟩ | ⟨-, -, h⟩ := State.gen20Sealed_cases active pt oem sid seq p trace s <;> rw [h] <;> try rfl
  obtain ⟨r, hr⟩ := State.gen20WithTrailer_keeps (header20Bytes (gen20Header active pt oem sid seq p)) p s.trlgenAnswer
    trace s.afterTrlgen
  rw [hr]; rfl

@[simp] theorem State.gen20_ctx (raw : Bytes) (pt : UInt6) (oem : Option Oem) (s : State) :
    (s.gen20 raw pt oem).ctx = s.ctx := by
  obtain ⟨_, -, -, h⟩ | ⟨-, -, h⟩ | ⟨-, -, -, h⟩ | ⟨-, -, -, h⟩ := State.gen20_cases raw pt oem s <;> rw [h] <;> try rfl
  · obtain ⟨-, h⟩ | ⟨_, -, -, h⟩ | ⟨_, _, -, -, -, h⟩ | ⟨_, _, _, -, -, -, h⟩ := State.gen20Active_cases raw pt oem s <;>
      rw [h] <;> try rfl
    exact State.gen20Sealed_ctx ..
  · exact State.gen20Sealed_ctx ..

end Sys2Proof.Machine
end

