-- ==== Sys2Proof/Laws/PerInstr.lean ====
section
/-! SUPPORT. Per-instruction statements. AssignedRequest: the request of every instruction is one the spec assigns: a tag
of R91, or bytes of the sizes of R70, R72 and R75. -/

namespace Sys2Proof.Laws.AssignedRequest

open Sys2Proof Sys2Proof.Machine

/-- The tags of R91. -/
def assigned (n : Nat) : Bool :=
  (0x01 ≤ n && n ≤ 0x09) || (0x10 ≤ n && n ≤ 0x16) || (0x20 ≤ n && n ≤ 0x23) || (0x30 ≤ n && n ≤ 0x3A) ||
  (0x40 ≤ n && n ≤ 0x43)

/-- What an assigned request is. -/
def Shape : Request → Prop
  | .op tag _ => assigned tag.toNat = true
  | .header15 buf => buf.length = 10 ∨ buf.length = 26
  | .header20 buf => buf.length = 12 ∨ buf.length = 18
  | .trailer p buf => p ≤ 3 ∧ p + 2 ≤ buf.length ∧ buf.length ≤ p + 18

/-- A well-formed instruction is spelt by an assigned request. -/
def Statement (i : Instr) : Prop := ∀ cfg : Config, i.wf cfg = true → Shape (encode cfg i)

theorem putU8 (buf : Bytes) (off : Nat) (v : Byte) : Statement (.putU8 buf off v) := fun _ _ => rfl
theorem putU16le (buf : Bytes) (off : Nat) (v : U16) : Statement (.putU16le buf off v) := fun _ _ => rfl
theorem putU32le (buf : Bytes) (off : Nat) (v : U32) : Statement (.putU32le buf off v) := fun _ _ => rfl
theorem putBytes (buf : Bytes) (off : Nat) (bs : Bytes) : Statement (.putBytes buf off bs) := fun _ _ => rfl
theorem getU8 (buf : Bytes) (off : Nat) : Statement (.getU8 buf off) := fun _ _ => rfl
theorem getU16le (buf : Bytes) (off : Nat) : Statement (.getU16le buf off) := fun _ _ => rfl
theorem getU32le (buf : Bytes) (off : Nat) : Statement (.getU32le buf off) := fun _ _ => rfl
theorem getBytes (buf : Bytes) (off n : Nat) : Statement (.getBytes buf off n) := fun _ _ => rfl
theorem getBytesUpto (buf : Bytes) (off n : Nat) : Statement (.getBytesUpto buf off n) := fun _ _ => rfl
theorem h15Pack (h : H15) : Statement (.h15Pack h) := fun _ _ => rfl
theorem h15Unpack (buf : Bytes) : Statement (.h15Unpack buf) := fun _ _ => rfl
theorem h20Pack (h : H20) : Statement (.h20Pack h) := fun _ _ => rfl
theorem h20Unpack (buf : Bytes) : Statement (.h20Unpack buf) := fun _ _ => rfl
theorem padSize (l : Nat) : Statement (.padSize l) := fun _ _ => rfl
theorem trlPack (t : Trl) : Statement (.trlPack t) := fun _ _ => rfl
theorem trlUnpack (buf : Bytes) (off : Nat) (p : Nat) : Statement (.trlUnpack buf off p) := fun _ _ => rfl
theorem s15Pack (f : S15) : Statement (.s15Pack f) := fun _ _ => rfl
theorem s15Unpack (buf : Bytes) : Statement (.s15Unpack buf) := fun _ _ => rfl
theorem s20Pack (f : S20) : Statement (.s20Pack f) := fun _ _ => rfl
theorem s20Unpack (buf : Bytes) : Statement (.s20Unpack buf) := fun _ _ => rfl
theorem ctxCreate (proto : Proto) : Statement (.ctxCreate proto) := fun _ _ => rfl
theorem ctxDestroy : Statement .ctxDestroy := fun _ _ => rfl
theorem ctxRead : Statement .ctxRead := fun _ _ => rfl
theorem ctxSetV15 (active : Bool) (authType : Byte) : Statement (.ctxSetV15 active authType) := fun _ _ => rfl
theorem ctxSetV15Sid (v : U32) : Statement (.ctxSetV15Sid v) := fun _ _ => rfl
theorem ctxSetV15Seq (v : U32) : Statement (.ctxSetV15Seq v) := fun _ _ => rfl
theorem ctxSetV20Sid (v : U32) : Statement (.ctxSetV20Sid v) := fun _ _ => rfl
theorem ctxSetV20Seq (v : U32) : Statement (.ctxSetV20Seq v) := fun _ _ => rfl
theorem ctxSetV20Keys (k : Key) : Statement (.ctxSetV20Keys k) := fun _ _ => rfl
theorem smAdvance (target : V20State) : Statement (.smAdvance target) := fun _ _ => rfl
theorem smReset : Statement .smReset := fun _ _ => rfl
theorem gen15 (raw : Bytes) : Statement (.gen15 raw) := fun _ _ => rfl
theorem gen20 (raw : Bytes) (pt : UInt6) (oem : Option Oem) : Statement (.gen20 raw pt oem) := fun _ _ => rfl
theorem build (raw : Bytes) (pt : UInt6) (oem : Option Oem) : Statement (.build raw pt oem) := fun _ _ => rfl
theorem parse (frame : Bytes) : Statement (.parse frame) := fun _ _ => rfl
theorem wireW15n (seq sid : U32) (payloadLen : Byte) : Statement (.wireW15n seq sid payloadLen) := by
  intro cfg _; exact .inl rfl
theorem wireW15a (authType : Byte) (seq sid : U32) (authCode : Bytes) (payloadLen : Byte) :
    Statement (.wireW15a authType seq sid authCode payloadLen) := by
  intro cfg h
  simp [Instr.wf] at h
  exact .inr (by simp [w15aHeader, header15Bytes, h])
theorem wireW20 (authType : Byte) (enc auth : Bool) (pt : UInt6) (sid seq : U32) (payloadLen : U16) :
    Statement (.wireW20 authType enc auth pt sid seq payloadLen) := by
  intro cfg _; exact .inl rfl
theorem wireW20o (authType : Byte) (enc auth : Bool) (iana : U32) (pid : U16) (sid seq : U32) (payloadLen : U16) :
    Statement (.wireW20o authType enc auth iana pid sid seq payloadLen) := by
  intro cfg _; exact .inr rfl
theorem wireWtrl (pad : Bytes) (padLen nextHeader : Byte) (authCode : Bytes) :
    Statement (.wireWtrl pad padLen nextHeader authCode) := by
  intro cfg h
  simp [Instr.wf] at h
  exact ⟨h.1, by simp [wtrlTrailer, trailerBytes], by simp [wtrlTrailer, trailerBytes]; omega⟩

end Sys2Proof.Laws.AssignedRequest
end

