-- ==== Sys2Proof/Tests/Slice0.lean ====
section
/-! SUPPORT. Tests on fixed values, each expected result from 95_test_vectors.md (E and V numbers) or worked out by hand
from the rule named; then, for each statement with hypotheses, witnesses that meet them. -/

namespace Sys2Proof.Tests

open Sys2Proof Sys2Proof.Machine

/-! ### States the tests start from -/

def live15 : State := { State.reset with ctx := Context.created .v15 }
def live20 : State := { State.reset with ctx := Context.created .v20 }

/-- The auth code 00 01 ... 0F. -/
def code16 : Bytes :=
  [0x00#8, 0x01#8, 0x02#8, 0x03#8, 0x04#8, 0x05#8, 0x06#8, 0x07#8] ++
  [0x08#8, 0x09#8, 0x0A#8, 0x0B#8, 0x0C#8, 0x0D#8, 0x0E#8, 0x0F#8]

/-- An authenticated v1.5 session, AC answering `a`. -/
def auth15 (a : Answer Bytes) : State :=
  { live15 with
    ctx := { live15.ctx with v15Active := true, v15AuthType := 0x02#8, v15Sid := some 0xA1B2C3D4#32, v15Seq := some 1#32 }
    collab := { ac := [a], enc := [], trlgen := [] } }

/-- A v2.0 session in Active, ENC answering `e` and TRLGEN `t`. -/
def active20 (sid : U32) (e : Answer Bytes) (t : List (Answer Trl)) : State :=
  { live20 with
    ctx := { live20.ctx with v20State := .active, v20Sid := some sid, v20Seq := some 5#32, v20Keys := some ⟨1⟩ }
    collab := { ac := [], enc := [e], trlgen := t } }

/-- The trailer of V44.11 and V46.11. -/
def trl2 : Trl :=
  { pad := [0xFF#8, 0xFF#8], padLen := 2#8, nextHeader := 0x07#8, authCode := [0xD0#8, 0xD1#8, 0xD2#8, 0xD3#8] }

/-- The handshake header over two payload bytes (V44.5). -/
def hdr20 : H20 :=
  { authType := 0x06#8, enc := false, auth := false, pt := 0x10#6, oem := none, sid := 0#32, seq := 0#32,
    payloadLen := 2#16 }

/-- The handshake frame over AA BB (E2). -/
def frame20 : Bytes :=
  [0x06#8, 0x10#8, 0x00#8, 0x00#8, 0x00#8, 0x00#8, 0x00#8, 0x00#8, 0x00#8, 0x00#8, 0x02#8, 0x00#8, 0xAA#8, 0xBB#8]

/-- The v1.5 header over two payload bytes (V44.1). -/
def hdr15 : H15 := { authType := 0x00#8, seq := 0#32, sid := 0#32, authCode := none, payloadLen := 2#8 }

/-- The unauthenticated v1.5 frame over AA BB (V44.1). -/
def frame15 : Bytes :=
  [0x00#8, 0x00#8, 0x00#8, 0x00#8, 0x00#8, 0x00#8, 0x00#8, 0x00#8, 0x00#8, 0x02#8, 0xAA#8, 0xBB#8]

/-- The authenticated header of V44.11. -/
def hdrAuth : H20 :=
  { authType := 0x06#8, enc := true, auth := true, pt := 0x00#6, oem := none, sid := 0x11223344#32, seq := 5#32,
    payloadLen := 2#16 }

/-- An operation that ends well and calls no collaborator. -/
def okReport (out : Output) : Option Report := some { ended := .ok out, trace := [] }

/-- An operation that fails before any call. -/
def errReport (e : Error) : Option Report := some { ended := .err e, trace := [] }

/-- A refused operation. -/
def refReport (r : Reason) : Option Report := some { ended := .refused r, trace := [] }

/-! ### WellFormed refuses an ill-formed term of each check -/

theorem test_wf_trlUnpack : Instr.wf .default (.trlUnpack [0x00#8, 0x07#8] 0 4) = false := by decide
theorem test_wf_wireW15a_none : Instr.wf .default (.wireW15a 0x00#8 0#32 0#32 code16 0#8) = false := by decide
theorem test_wf_wireW15a_code : Instr.wf .default (.wireW15a 0x02#8 0#32 0#32 [0x01#8] 0#8) = false := by decide
theorem test_wf_wireW20_oem : Instr.wf .default (.wireW20 0x06#8 false false 0x02#6 0#32 0#32 0#16) = false := by decide
theorem test_wf_wireWtrl_pad :
    Instr.wf .default (.wireWtrl [0xFF#8, 0xFF#8, 0xFF#8, 0xFF#8] 4#8 0x07#8 []) = false := by decide
theorem test_wf_wireWtrl_code : Instr.wf .default (.wireWtrl [] 0#8 0x07#8 (0x00#8 :: code16)) = false := by decide

/-! ### Decoding: tag and operands of each operation as R91 and its own rule write them -/

theorem test_decode_putU8 :
    decode .default (.op 0x01#8 [.bytes [0x00#8, 0x00#8], .num 1, .num 0xAB]) =
      .ok (.putU8 [0x00#8, 0x00#8] 1 0xAB#8) := by rfl
theorem test_decode_putU16le :
    decode .default (.op 0x02#8 [.bytes [0x00#8], .num 2, .num 0x1234]) = .ok (.putU16le [0x00#8] 2 0x1234#16) := by rfl
theorem test_decode_putU32le :
    decode .default (.op 0x03#8 [.bytes [], .num 1, .num 0x04030201]) = .ok (.putU32le [] 1 0x04030201#32) := by rfl
theorem test_decode_putBytes :
    decode .default (.op 0x04#8 [.bytes [0x00#8], .num 1, .bytes [0xAA#8]]) = .ok (.putBytes [0x00#8] 1 [0xAA#8]) := by
  rfl
theorem test_decode_getU8 :
    decode .default (.op 0x05#8 [.bytes [0x06#8, 0x10#8], .num 1]) = .ok (.getU8 [0x06#8, 0x10#8] 1) := by rfl
theorem test_decode_getU16le :
    decode .default (.op 0x06#8 [.bytes [0x06#8], .num 2]) = .ok (.getU16le [0x06#8] 2) := by rfl
theorem test_decode_getU32le :
    decode .default (.op 0x07#8 [.bytes [0x06#8], .num 3]) = .ok (.getU32le [0x06#8] 3) := by rfl
theorem test_decode_getBytes :
    decode .default (.op 0x08#8 [.bytes [0x11#8], .num 1, .num 2]) = .ok (.getBytes [0x11#8] 1 2) := by rfl
theorem test_decode_getBytesUpto :
    decode .default (.op 0x09#8 [.bytes [0x11#8], .num 2, .num 16]) = .ok (.getBytesUpto [0x11#8] 2 16) := by rfl
theorem test_decode_h15Pack :
    decode .default (.op 0x10#8 [.h15 ⟨0x02, 1, 0xA1B2C3D4, some code16, 3⟩]) =
      .ok (.h15Pack ⟨0x02#8, 1#32, 0xA1B2C3D4#32, some code16, 3#8⟩) := by rfl
theorem test_decode_h15Unpack : decode .default (.op 0x11#8 [.bytes [0x77#8]]) = .ok (.h15Unpack [0x77#8]) := by rfl
theorem test_decode_h20Pack :
    decode .default (.op 0x12#8 [.h20 ⟨0x06, 1, 0, 0x02, some ⟨0x0002A2, 1⟩, 0x11223344, 7, 0x1234⟩]) =
      .ok (.h20Pack ⟨0x06#8, true, false, 0x02#6, some ⟨0x0002A2#32, 1#16⟩, 0x11223344#32, 7#32, 0x1234#16⟩) := by rfl
theorem test_decode_h20Unpack : decode .default (.op 0x13#8 [.bytes [0x06#8]]) = .ok (.h20Unpack [0x06#8]) := by rfl
theorem test_decode_padSize : decode .default (.op 0x14#8 [.num 13]) = .ok (.padSize 13) := by rfl
theorem test_decode_trlPack :
    decode .default (.op 0x15#8 [.trl ⟨[0xFF#8, 0xFF#8], 2, 0x07, [0xD0#8, 0xD1#8, 0xD2#8, 0xD3#8]⟩]) =
      .ok (.trlPack trl2) := by rfl
theorem test_decode_trlUnpack :
    decode .default (.op 0x16#8 [.bytes [0x00#8, 0x07#8], .num 1, .num 3]) = .ok (.trlUnpack [0x00#8, 0x07#8] 1 3) := by
  rfl
theorem test_decode_s15Pack :
    decode .default (.op 0x20#8 [.s15 ⟨⟨0, 0, 0, none, 2⟩, [0xAA#8, 0xBB#8]⟩]) =
      .ok (.s15Pack ⟨hdr15, [0xAA#8, 0xBB#8]⟩) := by rfl
theorem test_decode_s15Unpack : decode .default (.op 0x21#8 [.bytes [0x01#8]]) = .ok (.s15Unpack [0x01#8]) := by rfl
theorem test_decode_s20Pack :
    decode .default (.op 0x22#8 [.s20 ⟨⟨0x06, 0, 0, 0x10, none, 0, 0, 2⟩, [0xAA#8, 0xBB#8],
        some ⟨[0xFF#8, 0xFF#8], 2, 0x07, [0xD0#8, 0xD1#8, 0xD2#8, 0xD3#8]⟩⟩]) =
      .ok (.s20Pack ⟨hdr20, [0xAA#8, 0xBB#8], some trl2⟩) := by rfl
theorem test_decode_s20Unpack : decode .default (.op 0x23#8 [.bytes [0x01#8]]) = .ok (.s20Unpack [0x01#8]) := by rfl
theorem test_decode_ctxCreate :
    decode .default (.op 0x30#8 [.num 0]) = .ok (.ctxCreate .v15) ∧
    decode .default (.op 0x30#8 [.num 1]) = .ok (.ctxCreate .v20) := by exact ⟨rfl, rfl⟩
theorem test_decode_ctxDestroy : decode .default (.op 0x31#8 []) = .ok .ctxDestroy := by rfl
theorem test_decode_ctxRead : decode .default (.op 0x32#8 []) = .ok .ctxRead := by rfl
theorem test_decode_ctxSetV15 :
    decode .default (.op 0x33#8 [.num 1, .num 0x02]) = .ok (.ctxSetV15 true 0x02#8) := by rfl
theorem test_decode_ctxSetV15Sid :
    decode .default (.op 0x34#8 [.num 0xA1B2C3D4]) = .ok (.ctxSetV15Sid 0xA1B2C3D4#32) := by rfl
theorem test_decode_ctxSetV15Seq : decode .default (.op 0x35#8 [.num 1]) = .ok (.ctxSetV15Seq 1#32) := by rfl
theorem test_decode_ctxSetV20Sid :
    decode .default (.op 0x36#8 [.num 0x11223344]) = .ok (.ctxSetV20Sid 0x11223344#32) := by rfl
theorem test_decode_ctxSetV20Seq : decode .default (.op 0x37#8 [.num 5]) = .ok (.ctxSetV20Seq 5#32) := by rfl
theorem test_decode_ctxSetV20Keys : decode .default (.op 0x38#8 [.num 1]) = .ok (.ctxSetV20Keys ⟨1⟩) := by rfl
theorem test_decode_smAdvance :
    decode .default (.op 0x39#8 [.num 5]) = .ok (.smAdvance .rakp3Sent) ∧
    decode .default (.op 0x39#8 [.num 8]) = .error (.refuse (.operandRange .target)) := by exact ⟨rfl, rfl⟩
theorem test_decode_smReset : decode .default (.op 0x3A#8 []) = .ok .smReset := by rfl
theorem test_decode_gen15 : decode .default (.op 0x40#8 [.bytes [0xAA#8]]) = .ok (.gen15 [0xAA#8]) := by rfl
theorem test_decode_gen20 :
    decode .default (.op 0x41#8 [.bytes [0x01#8], .num 0x10, .oem (some ⟨1, 2⟩)]) =
      .ok (.gen20 [0x01#8] 0x10#6 (some ⟨1#32, 2#16⟩)) := by rfl
theorem test_decode_build :
    decode .default (.op 0x42#8 [.bytes [0x99#8], .num 0x3F, .oem none]) = .ok (.build [0x99#8] 0x3F#6 none) := by rfl
theorem test_decode_parse : decode .default (.op 0x43#8 [.bytes [0x06#8]]) = .ok (.parse [0x06#8]) := by rfl

/-! The wire formats, bit by bit: E1, V41.2, V42.2, E3 and V43.4. -/

theorem test_decode_wireW15n :
    decode .default
      (.header15 [0x00#8, 0x01#8, 0x02#8, 0x03#8, 0x04#8, 0x05#8, 0x06#8, 0x07#8, 0x08#8, 0x10#8]) =
      .ok (.wireW15n 0x04030201#32 0x08070605#32 0x10#8) := by rfl
theorem test_decode_wireW15a :
    decode .default
      (.header15 ([0x02#8, 0x01#8, 0x00#8, 0x00#8, 0x00#8, 0xD4#8, 0xC3#8, 0xB2#8, 0xA1#8] ++ code16 ++ [0x03#8])) =
      .ok (.wireW15a 0x02#8 1#32 0xA1B2C3D4#32 code16 3#8) := by rfl
theorem test_decode_wireW20 :
    decode .default (.header20
      [0x06#8, 0xC0#8, 0x44#8, 0x33#8, 0x22#8, 0x11#8, 0x05#8, 0x00#8, 0x00#8, 0x00#8, 0x10#8, 0x00#8]) =
      .ok (.wireW20 0x06#8 true true 0x00#6 0x11223344#32 5#32 0x10#16) := by rfl
theorem test_decode_wireW20o :
    decode .default (.header20
      [0x06#8, 0x02#8, 0x56#8, 0x34#8, 0x12#8, 0x00#8, 0xEF#8, 0xBE#8, 0x04#8, 0x03#8, 0x02#8, 0x01#8, 0x0D#8, 0x0C#8,
       0x0B#8, 0x0A#8, 0x04#8, 0x00#8]) =
      .ok (.wireW20o 0x06#8 false false 0x00123456#32 0xBEEF#16 0x01020304#32 0x0A0B0C0D#32 4#16) := by rfl
theorem test_decode_wireWtrl :
    decode .default (.trailer 3 [0xFF#8, 0xFF#8, 0xFF#8, 0x03#8, 0x07#8, 0xAA#8, 0xBB#8, 0xCC#8, 0xDD#8]) =
      .ok (.wireWtrl [0xFF#8, 0xFF#8, 0xFF#8] 3#8 0x07#8 [0xAA#8, 0xBB#8, 0xCC#8, 0xDD#8]) := by rfl

/-- A row of the opcode table, numbered as the table numbers it: PAD_SIZE's tag, and E1's header with byte 0 lowest. -/
theorem test_tableWord :
    decodeTableWord 8 0x14 = some (.padSize 0) ∧
    decodeTableWord 80 0x10080706050403020100 = some (.wireW15n 0x04030201#32 0x08070605#32 0x10#8) := by
  exact ⟨rfl, rfl⟩

/-- V40.23, and a tag above the last family (R92). -/
theorem test_reserved :
    decode .default (.op 0x0A#8 [.num 1]) = .error (.refuse (.reservedOp 0x0A#8)) ∧
    decode .default (.op 0x44#8 []) = .error (.refuse (.reservedOp 0x44#8)) := by exact ⟨rfl, rfl⟩

/-- V42.12 and V43.9 (R272). -/
theorem test_operandRange :
    decode .default (.op 0x12#8 [.h20 ⟨0x06, 0, 0, 0x40, none, 0, 0, 0⟩]) = .error (.refuse (.operandRange .pt)) ∧
    decode .default (.op 0x16#8 [.bytes [0x00#8, 0x07#8], .num 0, .num 4]) = .error (.refuse (.operandRange .p)) := by
  exact ⟨rfl, rfl⟩

/-! ### Execution: one step on one small state -/

/-- V40.1, V40.2. -/
theorem test_putU8 :
    reportOf (exec (.putU8 [0x00#8, 0x00#8] 1 0xAB#8) live20) = okReport (.bufAt [0x00#8, 0xAB#8] 2) ∧
    reportOf (exec (.putU8 [] 0 0x01#8) live20) = errReport (.bufferTooShort .codec) := by decide
/-- V40.3, V40.4. -/
theorem test_putU16le :
    reportOf (exec (.putU16le [0x00#8, 0x00#8, 0x00#8] 1 0x1234#16) live20) =
      okReport (.bufAt [0x00#8, 0x34#8, 0x12#8] 3) ∧
    reportOf (exec (.putU16le [0x00#8, 0x00#8, 0x00#8] 2 0x1234#16) live20) = errReport (.bufferTooShort .codec) := by
  decide
/-- V40.5. -/
theorem test_putU32le :
    reportOf (exec (.putU32le [0x00#8, 0x00#8, 0x00#8, 0x00#8, 0x00#8] 1 0x04030201#32) live20) =
      okReport (.bufAt [0x00#8, 0x01#8, 0x02#8, 0x03#8, 0x04#8] 5) := by decide
/-- V40.7, V40.9. -/
theorem test_putBytes :
    reportOf (exec (.putBytes [0x00#8, 0x00#8, 0x00#8, 0x00#8] 1 [0xAA#8, 0xBB#8]) live20) =
      okReport (.bufAt [0x00#8, 0xAA#8, 0xBB#8, 0x00#8] 3) ∧
    reportOf (exec (.putBytes [0x00#8, 0x00#8] 3 []) live20) = errReport (.bufferTooShort .codec) := by decide
/-- V40.10, V40.11. -/
theorem test_getU8 :
    reportOf (exec (.getU8 [0x06#8, 0x10#8] 1) live20) = okReport (.u8At 0x10#8 2) ∧
    reportOf (exec (.getU8 [0x06#8, 0x10#8] 2) live20) = errReport (.bufferTooShort .codec) := by decide
/-- V40.12, V40.13. -/
theorem test_getU16le :
    reportOf (exec (.getU16le [0x00#8, 0x20#8, 0x00#8] 1) live20) = okReport (.u16At 0x0020#16 3) ∧
    reportOf (exec (.getU16le [0x00#8, 0x20#8] 1) live20) = errReport (.bufferTooShort .codec) := by decide
/-- V40.14, V40.15. -/
theorem test_getU32le :
    reportOf (exec (.getU32le [0x01#8, 0x02#8, 0x03#8, 0x04#8, 0x05#8] 1) live20) =
      okReport (.u32At 0x05040302#32 5) ∧
    reportOf (exec (.getU32le [0x01#8, 0x02#8, 0x03#8, 0x04#8] 1) live20) = errReport (.bufferTooShort .codec) := by decide
/-- V40.16, V40.17. -/
theorem test_getBytes :
    reportOf (exec (.getBytes [0x00#8, 0x11#8, 0x22#8, 0x33#8] 1 2) live20) = okReport (.bufAt [0x11#8, 0x22#8] 3) ∧
    reportOf (exec (.getBytes [0x00#8, 0x11#8, 0x22#8, 0x33#8] 3 2) live20) = errReport (.bufferTooShort .codec) := by
  decide
/-- V40.19, V40.22. -/
theorem test_getBytesUpto :
    reportOf (exec (.getBytesUpto [0x00#8, 0x11#8, 0x22#8, 0x33#8] 1 16) live20) =
      okReport (.bufAt [0x11#8, 0x22#8, 0x33#8] 4) ∧
    reportOf (exec (.getBytesUpto [0x00#8, 0x11#8] 3 16) live20) = errReport (.bufferTooShort .codec) := by decide
/-- V41.2. -/
theorem test_h15Pack :
    reportOf (exec (.h15Pack ⟨0x02#8, 1#32, 0xA1B2C3D4#32, some code16, 3#8⟩) live20) =
      okReport (.bytes
        ([0x02#8, 0x01#8, 0x00#8, 0x00#8, 0x00#8, 0xD4#8, 0xC3#8, 0xB2#8, 0xA1#8] ++ code16 ++ [0x03#8])) := by decide
/-- V41.9, V41.11. -/
theorem test_h15Pack_refused :
    reportOf (exec (.h15Pack ⟨0x02#8, 0#32, 0#32, none, 0#8⟩) live20) = refReport (.illFormed .h15AuthcodePresence) ∧
    reportOf (exec (.h15Pack ⟨0x02#8, 0#32, 0#32, some (List.replicate 15 0x00#8), 0#8⟩) live20) =
      refReport (.illFormed .h15AuthcodeLen) := by decide
/-- V41.7. -/
theorem test_h15Unpack :
    reportOf (exec (.h15Unpack
      [0x00#8, 0x01#8, 0x02#8, 0x03#8, 0x04#8, 0x05#8, 0x06#8, 0x07#8, 0x08#8, 0x10#8, 0xEE#8, 0xEE#8]) live20) =
      okReport (.h15 ⟨0x00#8, 0x04030201#32, 0x08070605#32, none, 0x10#8⟩ 10) := by decide
/-- V41.5, V41.4. -/
theorem test_h15Unpack_short :
    reportOf (exec (.h15Unpack (0x02#8 :: List.replicate 24 0x00#8)) live20) = errReport (.bufferTooShort .header) ∧
    reportOf (exec (.h15Unpack (List.replicate 9 0x00#8)) live20) = errReport (.bufferTooShort .header) := by decide
/-- V42.4. -/
theorem test_h20Pack :
    reportOf (exec (.h20Pack ⟨0x06#8, true, true, 0x02#6, some ⟨0x0002A2#32, 1#16⟩, 0x11223344#32, 7#32, 0#16⟩) live20) =
      okReport (.bytes [0x06#8, 0xC2#8, 0xA2#8, 0x02#8, 0x00#8, 0x00#8, 0x01#8, 0x00#8, 0x44#8, 0x33#8, 0x22#8, 0x11#8,
        0x07#8, 0x00#8, 0x00#8, 0x00#8, 0x00#8, 0x00#8]) := by decide
/-- V42.9 (the first check in order), V42.11. -/
theorem test_h20Pack_refused :
    reportOf (exec (.h20Pack ⟨0x07#8, true, false, 0x02#6, some ⟨0x99123456#32, 0xBEEF#16⟩, 0#32, 0#32, 0#16⟩) live20) =
      refReport (.illFormed .h20AuthTypeFixed) ∧
    reportOf (exec (.h20Pack ⟨0x06#8, false, false, 0x02#6, some ⟨0x01000000#32, 0#16⟩, 0#32, 0#32, 0#16⟩) live20) =
      refReport (.illFormed .h20IanaReserved) := by decide
/-- V42.8. -/
theorem test_h20Unpack :
    reportOf (exec (.h20Unpack
      ([0x07#8, 0x82#8, 0x56#8, 0x34#8, 0x12#8, 0x99#8, 0xEF#8, 0xBE#8] ++ List.replicate 10 0x00#8)) live20) =
      okReport (.h20 ⟨0x07#8, true, false, 0x02#6, some ⟨0x99123456#32, 0xBEEF#16⟩, 0#32, 0#32, 0#16⟩ 18) := by decide
/-- V42.5 (17 bytes of an OEM header), V42.7. -/
theorem test_h20Unpack_short :
    reportOf (exec (.h20Unpack ([0x06#8, 0x02#8] ++ List.replicate 15 0x00#8)) live20) =
      errReport (.bufferTooShort .header) ∧
    reportOf (exec (.h20Unpack [0x06#8]) live20) = errReport (.bufferTooShort .header) := by decide
/-- V43.1. -/
theorem test_padSize :
    [12, 13, 14, 15, 16, 17, 18, 19, 20].map (fun l => reportOf (exec (.padSize l) live20)) =
      [0, 3, 2, 1, 0, 3, 2, 1, 0].map (fun p => okReport (.nat p)) := by decide
/-- V43.4. -/
theorem test_trlPack :
    reportOf (exec (.trlPack ⟨[0xFF#8, 0xFF#8, 0xFF#8], 3#8, 0x07#8, [0xAA#8, 0xBB#8, 0xCC#8, 0xDD#8]⟩) live20) =
      okReport (.bytes [0xFF#8, 0xFF#8, 0xFF#8, 0x03#8, 0x07#8, 0xAA#8, 0xBB#8, 0xCC#8, 0xDD#8]) := by decide
/-- V43.11, V43.12. -/
theorem test_trlPack_refused :
    reportOf (exec (.trlPack ⟨[0xFF#8, 0xFF#8], 3#8, 0x07#8, []⟩) live20) = refReport (.illFormed .trlPadLen) ∧
    reportOf (exec (.trlPack ⟨[0xFF#8, 0xFE#8], 2#8, 0x07#8, []⟩) live20) = refReport (.illFormed .trlPadValue) := by
  decide
/-- V43.6: 16 bytes of auth code, the last four left unread. -/
theorem test_trlUnpack :
    reportOf (exec (.trlUnpack
      ([0xFF#8, 0xFF#8, 0xFF#8, 0x03#8, 0x07#8] ++ code16 ++ [0x20#8, 0x21#8, 0x22#8, 0x23#8]) 0 3) live20) =
      okReport (.trl ⟨[0xFF#8, 0xFF#8, 0xFF#8], 3#8, 0x07#8, code16⟩ 21) := by decide
/-- V43.7, V43.8. -/
theorem test_trlUnpack_kept :
    reportOf (exec (.trlUnpack [0x00#8, 0x11#8, 0x02#8, 0x06#8] 0 2) live20) =
      okReport (.trl ⟨[0x00#8, 0x11#8], 2#8, 0x06#8, []⟩ 4) ∧
    reportOf (exec (.trlUnpack [0xFF#8, 0xFF#8, 0xFF#8, 0x03#8] 0 3) live20) = errReport (.bufferTooShort .trailer) := by
  decide
/-- V44.1, V44.4. -/
theorem test_s15Pack :
    reportOf (exec (.s15Pack ⟨hdr15, [0xAA#8, 0xBB#8]⟩) live20) = okReport (.bytes frame15) ∧
    reportOf (exec (.s15Pack ⟨{ hdr15 with payloadLen := 3#8 }, [0xAA#8, 0xBB#8]⟩) live20) =
      refReport (.illFormed .s15Len) := by decide
/-- V44.2, V44.3. -/
theorem test_s15Unpack :
    reportOf (exec (.s15Unpack (frame15 ++ [0xCC#8])) live20) = okReport (.s15 ⟨hdr15, [0xAA#8, 0xBB#8]⟩) ∧
    reportOf (exec (.s15Unpack (frame15.take 11)) live20) = errReport (.bufferTooShort .payload) := by decide
/-- V44.11. -/
theorem test_s20Pack :
    reportOf (exec (.s20Pack ⟨hdrAuth, [0xC1#8, 0xC2#8], some trl2⟩) live20) =
      okReport (.bytes [0x06#8, 0xC0#8, 0x44#8, 0x33#8, 0x22#8, 0x11#8, 0x05#8, 0x00#8, 0x00#8, 0x00#8, 0x02#8, 0x00#8,
        0xC1#8, 0xC2#8, 0xFF#8, 0xFF#8, 0x02#8, 0x07#8, 0xD0#8, 0xD1#8, 0xD2#8, 0xD3#8]) := by decide
/-- V44.13, V44.12. -/
theorem test_s20Pack_refused :
    reportOf (exec (.s20Pack ⟨hdrAuth, [0xC1#8, 0xC2#8], none⟩) live20) = refReport (.illFormed .s20TrailerPresence) ∧
    reportOf (exec (.s20Pack ⟨hdrAuth, [0xC1#8, 0xC2#8], some { trl2 with pad := [0xFF#8], padLen := 1#8 }⟩) live20) =
      refReport (.illFormed .s20PadAlign) := by decide
/-- R84, R182: a broken check of R82 is refused under the name S20.trailer, before S20.pad_align, where TRL_PACK names the
check itself. -/
theorem test_s20Pack_trailer :
    reportOf (exec (.s20Pack ⟨hdrAuth, [0xC1#8, 0xC2#8], some { trl2 with pad := [0xFF#8] }⟩) live20) =
      refReport (.illFormed .s20Trailer) ∧
    reportOf (exec (.trlPack { trl2 with pad := [0xFF#8] }) live20) = refReport (.illFormed .trlPadLen) := by decide
/-- V44.8. -/
theorem test_s20Unpack :
    reportOf (exec (.s20Unpack [0x06#8, 0xC0#8, 0x01#8, 0x00#8, 0x00#8, 0x00#8, 0x02#8, 0x00#8, 0x00#8, 0x00#8, 0x01#8,
        0x00#8, 0x99#8, 0xFF#8, 0xFF#8, 0xFF#8, 0x03#8, 0x07#8]) live20) =
      okReport (.s20 ⟨⟨0x06#8, true, true, 0x00#6, none, 1#32, 2#32, 1#16⟩, [0x99#8],
        some ⟨[0xFF#8, 0xFF#8, 0xFF#8], 3#8, 0x07#8, []⟩⟩) := by decide
/-- V44.6 (auth = 1, session ID 0: no trailer), V44.7. -/
theorem test_s20Unpack_trailer :
    reportOf (exec (.s20Unpack [0x06#8, 0x40#8, 0x00#8, 0x00#8, 0x00#8, 0x00#8, 0x00#8, 0x00#8, 0x00#8, 0x00#8, 0x02#8,
        0x00#8, 0xAA#8, 0xBB#8, 0x00#8, 0x07#8]) live20) =
      okReport (.s20 ⟨⟨0x06#8, false, true, 0x00#6, none, 0#32, 0#32, 2#16⟩, [0xAA#8, 0xBB#8], none⟩) ∧
    reportOf (exec (.s20Unpack [0x06#8, 0xC0#8, 0x01#8, 0x00#8, 0x00#8, 0x00#8, 0x02#8, 0x00#8, 0x00#8, 0x00#8, 0x01#8,
        0x00#8, 0x99#8, 0xFF#8, 0xFF#8, 0xFF#8, 0x03#8]) live20) = errReport (.bufferTooShort .trailer) := by decide

/-- The context registers after an instruction. -/
def ctxOf : Result → Option Context
  | .next t => some t.ctx
  | .fault _ => none
  | .refused _ => none

/-- V45.13: on a live context with a session ID, every register at its R201 value. -/
theorem test_ctxCreate :
    ctxOf (exec (.ctxCreate .v20) (auth15 .fail)) =
      some { live := true, proto := .v20, v15Active := false, v15AuthType := 0x00#8, v15Sid := none, v15Seq := none,
             v20State := .preSession, v20Sid := none, v20Seq := none, v20Keys := none } := by decide
/-- V45.12: after a first CTX_DESTROY no context lives, and a second is NoContext. -/
theorem test_ctxDestroy :
    (ctxOf (exec .ctxDestroy live20)).map (·.live) = some false ∧
    reportOf (exec .ctxDestroy State.reset) = errReport .noContext := by exact ⟨rfl, by decide⟩
/-- V45.2, V45.1. -/
theorem test_ctxRead :
    reportOf (exec .ctxRead live20) =
      okReport (.context {
        live := true, proto := .v20, v15Active := false, v15AuthType := 0x00#8, v15Sid := none,
        v15Seq := none, v20State := .preSession, v20Sid := none, v20Seq := none, v20Keys := none }) ∧
    reportOf (exec .ctxRead State.reset) = errReport .noContext := by decide
/-- V45.9, V45.11. -/
theorem test_ctxSetV15 :
    reportOf (exec (.ctxSetV15 true 0x04#8) (auth15 .fail)) = errReport (.illegalTransition .v15AuthTypeFixed) ∧
    reportOf (exec (.ctxSetV15 true 0x02#8) (auth15 .fail)) = okReport .unit := by decide
/-- V45.10. -/
theorem test_ctxSetV15_off :
    (ctxOf (exec (.ctxSetV15 false 0x04#8) (auth15 .fail))).map (fun c => (c.v15Active, c.v15AuthType)) =
      some (false, 0x04#8) := by decide
/-- P1, steps 6 and 7 (R205, R206). -/
theorem test_ctxSetV15Sid :
    (ctxOf (exec (.ctxSetV15Sid 0xA1B2C3D4#32) live15)).map (fun c => (c.v15Sid, c.v15Seq)) =
      some (some 0xA1B2C3D4#32, none) := by decide
theorem test_ctxSetV15Seq :
    (ctxOf (exec (.ctxSetV15Seq 1#32) live15)).map (fun c => (c.v15Sid, c.v15Seq)) = some (none, some 1#32) := by decide
/-- V45.15: session ID 0 is written, and the state stays. -/
theorem test_ctxSetV20Sid :
    (ctxOf (exec (.ctxSetV20Sid 0#32) live20)).map (fun c => (c.v20Sid, c.v20Seq, c.v20State)) =
      some (some 0#32, none, .preSession) := by decide
theorem test_ctxSetV20Seq :
    (ctxOf (exec (.ctxSetV20Seq 5#32) live20)).map (fun c => (c.v20Sid, c.v20Seq)) = some (none, some 5#32) := by decide
theorem test_ctxSetV20Keys :
    (ctxOf (exec (.ctxSetV20Keys ⟨1⟩) live20)).map (·.v20Keys) = some (some ⟨1⟩) := by decide
/-- V45.5, V45.6: no skip, no re-entry. -/
theorem test_smAdvance :
    reportOf (exec (.smAdvance .rakp1Sent) live20) =
      errReport (.illegalTransition (.v20State .preSession .rakp1Sent)) ∧
    reportOf (exec (.smAdvance .preSession) live20) =
      errReport (.illegalTransition (.v20State .preSession .preSession)) := by decide
/-- V45.3, V45.7. -/
theorem test_smAdvance_active :
    (ctxOf (exec (.smAdvance .active) { live20 with ctx := { live20.ctx with v20State := .rakp3Sent } })).map
      (·.v20State) = some .active ∧
    reportOf (exec (.smAdvance .active) { live20 with ctx := { live20.ctx with v20State := .closeSent } }) =
      errReport (.illegalTransition (.v20State .closeSent .active)) := by decide
/-- V45.8. -/
theorem test_smReset :
    ctxOf (exec .smReset (active20 5#32 .fail [])) = some live20.ctx := by decide

/-- V46.4. -/
theorem test_gen15 :
    reportOf (exec (.gen15 [0x20#8, 0x18#8, 0xC8#8, 0x81#8, 0x08#8, 0x3B#8, 0x04#8, 0x3C#8]) (auth15 (.ok code16))) =
      some { ended := .ok (.bytes ([0x02#8, 0x01#8, 0x00#8, 0x00#8, 0x00#8, 0xD4#8, 0xC3#8, 0xB2#8, 0xA1#8] ++ code16 ++
               [0x08#8, 0x20#8, 0x18#8, 0xC8#8, 0x81#8, 0x08#8, 0x3B#8, 0x04#8, 0x3C#8])),
             trace := [.ac [0x20#8, 0x18#8, 0xC8#8, 0x81#8, 0x08#8, 0x3B#8, 0x04#8, 0x3C#8] (.ok code16)] } := by decide
/-- V46.5, V46.1. -/
theorem test_gen15_bad :
    (reportOf (exec (.gen15 [0xAA#8]) (auth15 (.ok [0x00#8])))).map (·.ended) =
      some (.err (.collaboratorFailure .ac .badResult)) ∧
    reportOf (exec (.gen15 [0xAA#8, 0xBB#8]) live15) = okReport (.bytes frame15) := by decide
/-- V46.11. -/
theorem test_gen20 :
    reportOf (exec (.gen20 [0x01#8, 0x02#8] 0x00#6 none)
      (active20 0x11223344#32 (.ok [0xC1#8, 0xC2#8]) [.ok trl2])) =
      some { ended := .ok (.bytes [0x06#8, 0xC0#8, 0x44#8, 0x33#8, 0x22#8, 0x11#8, 0x05#8, 0x00#8, 0x00#8, 0x00#8, 0x02#8,
               0x00#8, 0xC1#8, 0xC2#8, 0xFF#8, 0xFF#8, 0x02#8, 0x07#8, 0xD0#8, 0xD1#8, 0xD2#8, 0xD3#8]),
             trace := [.enc [0x01#8, 0x02#8] (some ⟨1⟩) (.ok [0xC1#8, 0xC2#8]),
               .trlgen [0x06#8, 0xC0#8, 0x44#8, 0x33#8, 0x22#8, 0x11#8, 0x05#8, 0x00#8, 0x00#8, 0x00#8, 0x02#8, 0x00#8]
                 [0xC1#8, 0xC2#8] (.ok trl2)] } := by decide
/-- V46.12 (the pad of 14 bytes is 2), V46.14 (session ID 0: no trailer). -/
theorem test_gen20_trailer :
    (reportOf (exec (.gen20 [0x01#8, 0x02#8] 0x00#6 none) (active20 0x11223344#32 (.ok [0xC1#8, 0xC2#8])
      [.ok { pad := [0xFF#8], padLen := 1#8, nextHeader := 0x07#8, authCode := [] }]))).map (·.ended) =
      some (.err (.collaboratorFailure .trlgen .badResult)) ∧
    (reportOf (exec (.gen20 [0x01#8] 0x00#6 none) (active20 0#32 (.ok [0xE0#8, 0xE1#8]) []))).map (·.ended) =
      some (.ok (.bytes [0x06#8, 0xC0#8, 0x00#8, 0x00#8, 0x00#8, 0x00#8, 0x05#8, 0x00#8, 0x00#8, 0x00#8, 0x02#8, 0x00#8,
        0xE0#8, 0xE1#8])) := by decide
/-- E2, V46.20 (v1.5: the payload type and OEM operands are ignored). -/
theorem test_build :
    reportOf (exec (.build [0xAA#8, 0xBB#8] 0x10#6 none) live20) = okReport (.bytes frame20) ∧
    reportOf (exec (.build [0xAA#8, 0xBB#8] 0x02#6 none) live15) = okReport (.bytes frame15) := by decide
/-- V46.18, V46.19: GEN20's shape refusal comes before NoContext, BUILD's after it. -/
theorem test_build_order :
    reportOf (exec (.gen20 [0x01#8] 0x02#6 none) State.reset) = refReport (.operandShape .oem) ∧
    reportOf (exec (.build [0x01#8] 0x02#6 none) State.reset) = errReport .noContext := by decide
/-- V46.22, V46.23. -/
theorem test_parse :
    reportOf (exec (.parse frame20) live20) =
      okReport (.parsed20 [0xAA#8, 0xBB#8] ⟨hdr20, [0xAA#8, 0xBB#8], none⟩) ∧
    reportOf (exec (.parse frame20) live15) = errReport (.bufferTooShort .header) := by decide

/-- The wire rows read as their unpacks read their bytes (E1, V42.8's byte 0 and IANA, V43.7). -/
theorem test_wireRows :
    reportOf (exec (.wireW15n 0x04030201#32 0x08070605#32 0x10#8) State.reset) =
      okReport (.h15 ⟨0x00#8, 0x04030201#32, 0x08070605#32, none, 0x10#8⟩ 10) ∧
    reportOf (exec (.wireW20o 0x07#8 true false 0x99123456#32 0xBEEF#16 0#32 0#32 0#16) State.reset) =
      okReport (.h20 ⟨0x07#8, true, false, 0x02#6, some ⟨0x99123456#32, 0xBEEF#16⟩, 0#32, 0#32, 0#16⟩ 18) ∧
    reportOf (exec (.wireWtrl [0x00#8, 0x11#8] 2#8 0x06#8 []) State.reset) =
      okReport (.trl ⟨[0x00#8, 0x11#8], 2#8, 0x06#8, []⟩ 4) := by decide

/-- A step from power-on: P1's first request, and the fetch of a table row (R292). -/
theorem test_step :
    ctxOf (step { State.reset with pending := [.op 0x30#8 [.num 0]] }) = some (Context.created .v15) ∧
    reportOf (step (State.reset.withFetchWord 8 0x14)) = okReport (.nat 0) ∧
    reportOf (step (State.reset.withFetchWord 8 0x0A)) = refReport (.reservedOp 0x0A#8) := by decide


/-! ### Witnesses: values that meet the hypotheses of each statement, each clause at the edge of its range -/

/-- Bytes too many to write out. -/
def zeros (n : Nat) : Bytes := List.replicate n 0x00#8

theorem zeros_length (n : Nat) : (zeros n).length = n := by exact List.length_replicate

theorem witness_PutIntegersLowByteFirst :
    (1 + 1 ≤ (List.replicate 2 0x00#8).length ∧ ¬ 2 + 1 ≤ (List.replicate 2 0x00#8).length) ∧
    (0 + 2 ≤ (List.replicate 2 0x00#8).length ∧ ¬ 1 + 2 ≤ (List.replicate 2 0x00#8).length) ∧
    (0 + 4 ≤ (List.replicate 4 0x00#8).length ∧ ¬ 1 + 4 ≤ (List.replicate 4 0x00#8).length) := by decide
theorem witness_PutBytesCopiesRange :
    2 + ([] : Bytes).length ≤ (List.replicate 2 0x00#8).length ∧
    ¬ 3 + ([] : Bytes).length ≤ (List.replicate 2 0x00#8).length := by decide
theorem witness_GetIntegersLowByteFirst :
    (1 + 1 ≤ (List.replicate 2 0x00#8).length ∧ ¬ 2 + 1 ≤ (List.replicate 2 0x00#8).length) ∧
    (0 + 2 ≤ (List.replicate 2 0x00#8).length ∧ ¬ 1 + 2 ≤ (List.replicate 2 0x00#8).length) ∧
    (0 + 4 ≤ (List.replicate 4 0x00#8).length ∧ ¬ 1 + 4 ≤ (List.replicate 4 0x00#8).length) := by decide
theorem witness_GetBytesStrictAndTolerant :
    (2 + 0 ≤ (List.replicate 2 0x00#8).length ∧ ¬ 1 + 2 ≤ (List.replicate 2 0x00#8).length) ∧
    (2 ≤ (List.replicate 2 0x00#8).length ∧ ¬ 3 ≤ (List.replicate 2 0x00#8).length) := by decide
theorem witness_CodecPutThenGet :
    0 + 1 ≤ ([0x00#8] : Bytes).length ∧ 1 + 2 ≤ (List.replicate 3 0x00#8).length ∧
    1 + 4 ≤ (List.replicate 5 0x00#8).length ∧ 1 + code16.length ≤ (0x00#8 :: code16).length := by decide

theorem witness_H15PackEmitsLayout :
    ValidH15 hdr15 ∧ ValidH15 ⟨0x02#8, 1#32, 0xA1B2C3D4#32, some code16, 3#8⟩ ∧
    ¬ ((⟨0x02#8, 0#32, 0#32, none, 0#8⟩ : H15).authCode = none ↔ (0x02#8 : Byte) = 0x00#8) ∧
    ((0x02#8 : Byte) ≠ 0x00#8 ∧ (List.replicate 15 0x00#8).length ≠ 16) := by decide
theorem witness_H15UnpackReadsLayout :
    (List.replicate 9 0x00#8).length < 10 ∧
    (¬ (List.replicate 10 0x00#8).length < 10 ∧ (List.replicate 10 (0x00#8 : Byte)).getD 0 0#8 = 0x00#8) ∧
    (¬ (0x02#8 :: List.replicate 24 0x00#8).length < 10 ∧ (0x02#8 :: List.replicate 24 (0x00#8 : Byte)).getD 0 0#8 ≠ 0x00#8 ∧
      (0x02#8 :: List.replicate 24 0x00#8).length < 26) ∧
    ((0x77#8 :: List.replicate 25 (0x00#8 : Byte)).getD 0 0#8 ≠ 0x00#8 ∧
      ¬ (0x77#8 :: List.replicate 25 0x00#8).length < 26) := by decide
theorem witness_H20PackEmitsLayout :
    (0x07#8 : Byte) ≠ 0x06#8 ∧ ¬ (0x06#8 : Byte) ≠ 0x06#8 ∧
    (0x02#6 : UInt6) = live20.cfg.ptOem ∧ (0x10#6 : UInt6) ≠ live20.cfg.ptOem ∧
    2 ^ 24 ≤ (0x01000000#32 : U32).toNat ∧ ¬ 2 ^ 24 ≤ (0x00FFFFFF#32 : U32).toNat := by decide
theorem witness_H20UnpackReadsLayout :
    (List.replicate 11 0x00#8).length < 12 ∧
    (¬ (List.replicate 12 0x00#8).length < 12 ∧
      ((List.replicate 12 (0x00#8 : Byte)).getD 1 0#8).extractLsb' 0 6 ≠ live20.cfg.ptOem) ∧
    (((List.replicate 17 (0x02#8 : Byte)).getD 1 0#8).extractLsb' 0 6 = live20.cfg.ptOem ∧
      ¬ (List.replicate 17 0x02#8).length < 12 ∧ (List.replicate 17 0x02#8).length < 18) ∧
    (((List.replicate 18 (0x02#8 : Byte)).getD 1 0#8).extractLsb' 0 6 = live20.cfg.ptOem ∧
      ¬ (List.replicate 18 0x02#8).length < 18) := by decide
theorem witness_HeaderRoundTrip :
    ValidH15 ⟨0x02#8, 1#32, 0xA1B2C3D4#32, some code16, 3#8⟩ ∧ ValidH20 live20.cfg hdr20 ∧
    ValidH20 live20.cfg ⟨0x06#8, true, true, 0x02#6, some ⟨0x00FFFFFF#32, 1#16⟩, 0#32, 7#32, 0#16⟩ := by decide

theorem witness_TrlPackEmitsLayout :
    3 < (List.replicate 4 0xFF#8).length ∧ ¬ 3 < (List.replicate 3 0xFF#8).length ∧
    (∃ b ∈ ([0xFF#8, 0xFE#8] : Bytes), b ≠ 0xFF#8) ∧ ¬ (∃ b ∈ ([0xFF#8, 0xFF#8] : Bytes), b ≠ 0xFF#8) ∧
    (3#8 : Byte).toNat ≠ ([0xFF#8, 0xFF#8] : Bytes).length ∧ ¬ (2#8 : Byte).toNat ≠ ([0xFF#8, 0xFF#8] : Bytes).length ∧
    (0x06#8 : Byte) ≠ 0x07#8 ∧ 16 < (0x00#8 :: code16).length ∧ ¬ 16 < code16.length := by decide
theorem witness_TrlUnpackReadsLayout :
    3 < 4 ∧ (¬ 3 < 3 ∧ ([0xFF#8, 0xFF#8, 0xFF#8, 0x03#8] : Bytes).length < 0 + 3 + 2) ∧
    ¬ ([0xFF#8, 0xFF#8, 0xFF#8, 0x03#8, 0x07#8] : Bytes).length < 0 + 3 + 2 := by decide
theorem witness_TrlRoundTrip : ValidTrl trl2 ∧ ValidTrl ⟨[0xFF#8, 0xFF#8, 0xFF#8], 3#8, 0x07#8, code16⟩ := by decide

theorem witness_S15PackConcatenates :
    ValidS15 ⟨hdr15, [0xAA#8, 0xBB#8]⟩ ∧
    (ValidH15 hdr15 ∧ hdr15.payloadLen.toNat ≠ ([0xAA#8] : Bytes).length) ∧
    Refuses (.h15Pack ⟨0x02#8, 0#32, 0#32, none, 0#8⟩) live20 (.illFormed .h15AuthcodePresence) := by
  exact ⟨by decide, by decide, rfl⟩
theorem witness_S15UnpackSplits :
    (List.replicate 9 (0x00#8 : Byte)).length < size15At (List.replicate 9 0x00#8) ∧
    (¬ (frame15.take 11).length < size15At (frame15.take 11) ∧
      (frame15.take 11).length < size15At (frame15.take 11) + (h15At (frame15.take 11)).payloadLen.toNat) ∧
    ¬ frame15.length < size15At frame15 + (h15At frame15).payloadLen.toNat := by decide
theorem witness_S20PackConcatenates :
    (ValidS20 live20.cfg ⟨hdr20, [0xAA#8, 0xBB#8], none⟩ ∧ ValidS20 live20.cfg ⟨hdrAuth, [0xC1#8, 0xC2#8], some trl2⟩) ∧
    Refuses (.h20Pack { hdr20 with authType := 0x07#8 }) live20 (.illFormed .h20AuthTypeFixed) ∧
    (ValidH20 live20.cfg hdr20 ∧ hdr20.payloadLen.toNat ≠ ([0xAA#8] : Bytes).length) ∧
    (ValidH20 live20.cfg hdrAuth ∧ ¬ ((none : Option Trl).isSome ↔ hdrAuth.auth = true ∧ hdrAuth.sid ≠ 0#32)) ∧
    ¬ ValidTrl { trl2 with nextHeader := 0x06#8 } ∧
    (ValidTrl { trl2 with pad := [0xFF#8], padLen := 1#8 } ∧
      ¬ TrailerFits live20.cfg ⟨hdrAuth, [0xC1#8, 0xC2#8], some { trl2 with pad := [0xFF#8], padLen := 1#8 }⟩) := by
  exact ⟨by decide, rfl, by decide, by decide, by decide, by decide⟩

/-- V44.8's bytes. -/
def frameAuth : Bytes :=
  [0x06#8, 0xC0#8, 0x01#8, 0x00#8, 0x00#8, 0x00#8, 0x02#8, 0x00#8, 0x00#8, 0x00#8, 0x01#8, 0x00#8, 0x99#8, 0xFF#8, 0xFF#8,
   0xFF#8, 0x03#8, 0x07#8]

theorem witness_S20UnpackSplits :
    (List.replicate 11 (0x00#8 : Byte)).length < size20At live20.cfg (List.replicate 11 0x00#8) ∧
    (¬ (frame20.take 13).length < size20At live20.cfg (frame20.take 13) ∧
      (frame20.take 13).length < end20At live20.cfg (frame20.take 13)) ∧
    ((h20At live20.cfg (frameAuth.take 17)).auth = true ∧ (h20At live20.cfg (frameAuth.take 17)).sid ≠ 0#32 ∧
      (frameAuth.take 17).length < end20At live20.cfg (frameAuth.take 17) +
        (4 - end20At live20.cfg (frameAuth.take 17) % 4) % 4 + 2) ∧
    (¬ frameAuth.length < end20At live20.cfg frameAuth ∧
      ¬ frameAuth.length < end20At live20.cfg frameAuth + (4 - end20At live20.cfg frameAuth % 4) % 4 + 2) := by decide
theorem witness_FrameRoundTrip :
    ValidS15 ⟨hdr15, [0xAA#8, 0xBB#8]⟩ ∧ ValidS20 live20.cfg ⟨hdr20, [0xAA#8, 0xBB#8], none⟩ ∧
    ValidS20 live20.cfg ⟨hdrAuth, [0xC1#8, 0xC2#8], some trl2⟩ := by decide
theorem witness_TrailerPresenceLaw :
    ReportsOk (.s20Unpack frame20) live20 (.s20 ⟨hdr20, [0xAA#8, 0xBB#8], none⟩) ∧
    ReportsOk (.s20Pack ⟨hdr20, [0xAA#8, 0xBB#8], none⟩) live20 (.bytes frame20) := by exact ⟨rfl, rfl⟩
theorem witness_ExcessBytesIgnored :
    ReportsOk (.s15Unpack frame15) live20 (.s15 ⟨hdr15, [0xAA#8, 0xBB#8]⟩) ∧
    (ReportsOk (.s20Unpack frame20) live20 (.s20 ⟨hdr20, [0xAA#8, 0xBB#8], none⟩)) ∧
    (ReportsOk (.s20Unpack (frameAuth ++ code16)) live20
      (.s20 ⟨⟨0x06#8, true, true, 0x00#6, none, 1#32, 2#32, 1#16⟩, [0x99#8],
        some ⟨[0xFF#8, 0xFF#8, 0xFF#8], 3#8, 0x07#8, code16⟩⟩) ∧ code16.length = 16) := by exact ⟨rfl, rfl, rfl, rfl⟩

/-- For ContextCreatedAndDestroyed, CtxReadShowsRegisters, SessionRegisterWrites and SmResetDiscardsHandshake, whose
clauses ask only whether a context lives. -/
theorem witness_liveAndDead : live20.ctx.live = true ∧ State.reset.ctx.live = false := by decide
theorem witness_CtxSetV15KeepsActiveAuthType :
    State.reset.ctx.live = false ∧
    ((auth15 .fail).ctx.live = true ∧ (auth15 .fail).ctx.v15Active = true ∧ (0x04#8 : Byte) ≠ (auth15 .fail).ctx.v15AuthType) ∧
    ¬ (0x02#8 : Byte) ≠ (auth15 .fail).ctx.v15AuthType := by decide
theorem witness_SmAdvanceToSuccessorOnly :
    State.reset.ctx.live = false ∧ live20.ctx.live = true ∧
    stateCode .openSessionSent = stateCode live20.ctx.v20State + 1 ∧
    ¬ stateCode .rakp1Sent = stateCode live20.ctx.v20State + 1 := by decide
theorem witness_StateMovesOnlyByTable :
    exec (.smAdvance .openSessionSent) live20 =
      .next (live20.writeCtx { live20.ctx with v20State := .openSessionSent }) ∧
    (live20.writeCtx { live20.ctx with v20State := .openSessionSent }).ctx.live = true ∧
    (live20.writeCtx { live20.ctx with v20State := .openSessionSent }).ctx.v20State ≠ live20.ctx.v20State ∧
    exec .smReset (active20 0#32 .fail []) = .next ((active20 0#32 .fail []).writeCtx live20.ctx) ∧
    live20.ctx.v20State ≠ (active20 0#32 .fail []).ctx.v20State := by exact ⟨rfl, rfl, by decide, rfl, by decide⟩
theorem witness_ProtoAndActiveAuthTypeFixed :
    exec (.ctxSetV15 true 0x02#8) (auth15 .fail) = .next ((auth15 .fail).writeCtx (auth15 .fail).ctx) ∧
    (auth15 .fail).ctx.live = true ∧ (∀ p, Instr.ctxSetV15 true 0x02#8 ≠ .ctxCreate p) ∧
    (auth15 .fail).ctx.v15Active = true := by
  exact ⟨rfl, rfl, nofun, rfl⟩

theorem witness_Gen15BuildsFrame :
    State.reset.ctx.live = false ∧ 255 < (zeros 256).length ∧
    (¬ 255 < (zeros 255).length ∧ live15.ctx.v15Active = false) ∧
    (¬ ((auth15 .fail).ctx.v15Active = false ∨ (auth15 .fail).ctx.v15AuthType = 0x00#8) ∧
      (auth15 .fail).ctx.v15Sid = some 0xA1B2C3D4#32 ∧ (auth15 .fail).ctx.v15Seq = some 1#32 ∧
      (auth15 .fail).acAnswer = .fail ∧ (auth15 (.ok code16)).acAnswer = .ok code16 ∧
      (auth15 (.ok [])).acAnswer = .ok [] ∧ ([] : Bytes).length ≠ 16) ∧
    (let unwritten : State := { live15 with ctx := { live15.ctx with v15Active := true, v15AuthType := 0x02#8 } }
     ¬ (unwritten.ctx.v15Active = false ∨ unwritten.ctx.v15AuthType = 0x00#8) ∧
      unwritten.ctx.v15Sid = none ∧
      (unwritten.writeCtx { unwritten.ctx with v15Sid := some 1#32 }).ctx.v15Sid = some 1#32 ∧
      (unwritten.writeCtx { unwritten.ctx with v15Sid := some 1#32 }).ctx.v15Seq = none) := by
  exact ⟨rfl, by rw [zeros_length]; decide, ⟨by rw [zeros_length]; decide, rfl⟩, by decide, by decide⟩
theorem witness_Gen20UnprotectedBeforeActive :
    live20.ctx.live = true ∧ live20.ctx.v20State ≠ .active ∧ OemFits live20.cfg 0x10#6 none ∧
    OemFits live20.cfg 0x02#6 (some ⟨0x00FFFFFF#32, 1#16⟩) ∧ (zeros 65535).length ≤ 65535 ∧
    ¬ (zeros 65536).length ≤ 65535 := by
  exact ⟨rfl, by decide, by decide, by decide, by rw [zeros_length], by rw [zeros_length]; decide⟩
theorem witness_Gen20ProtectsInActive :
    (active20 1#32 (.ok [0xC1#8]) [.ok trl2]).ctx.live = true ∧
    (active20 1#32 (.ok [0xC1#8]) [.ok trl2]).ctx.v20State = .active ∧
    (active20 1#32 (.ok [0xC1#8]) [.ok trl2]).ctx.v20Sid = some 1#32 ∧
    (active20 1#32 (.ok [0xC1#8]) [.ok trl2]).ctx.v20Seq = some 5#32 ∧ (1#32 : U32) ≠ 0#32 ∧
    OemFits (active20 1#32 (.ok [0xC1#8]) [.ok trl2]).cfg 0x00#6 none ∧
    (active20 1#32 (.ok [0xC1#8]) [.ok trl2]).encAnswer = .ok [0xC1#8] ∧ ([0xC1#8] : Bytes).length ≤ 65535 ∧
    (active20 1#32 (.ok [0xC1#8]) [.ok trl2]).afterEnc.trlgenAnswer = .ok trl2 := by decide
theorem witness_Gen20NoTrailerForSessionZero :
    (active20 0#32 (.ok []) []).ctx.live = true ∧ (active20 0#32 (.ok []) []).ctx.v20State = .active ∧
    (active20 0#32 (.ok []) []).ctx.v20Sid = some 0#32 ∧ (active20 0#32 (.ok []) []).ctx.v20Seq = some 5#32 ∧
    OemFits (active20 0#32 (.ok []) []).cfg 0x00#6 none ∧ (active20 0#32 (.ok []) []).encAnswer = .ok [] ∧
    ([] : Bytes).length ≤ 65535 := by decide
theorem witness_Gen20ReportingOrder :
    ¬ ((none : Option Oem).isSome ↔ (0x02#6 : UInt6) = live20.cfg.ptOem) ∧
    (∃ o ∈ some (⟨0x01000000#32, 0#16⟩ : Oem), 2 ^ 24 ≤ o.iana.toNat) ∧
    (State.reset.ctx.live = false ∧ ((none : Option Oem).isSome ↔ (0x10#6 : UInt6) = State.reset.cfg.ptOem)) ∧
    ({ live20.ctx with v20State := .active } : Context).v20Sid = none ∧
    (active20 1#32 .fail []).encAnswer = .fail ∧
    (active20 1#32 (.ok (zeros 65536)) []).encAnswer = .ok (zeros 65536) ∧
    65535 < (zeros 65536).length ∧
    ((active20 1#32 (.ok []) [.fail]).encAnswer = .ok [] ∧
      (active20 1#32 (.ok []) [.fail]).afterEnc.trlgenAnswer = .fail) := by
  exact ⟨by decide, ⟨_, rfl, by decide⟩, by decide, rfl, rfl, rfl, by rw [zeros_length]; decide, by decide⟩
theorem witness_BuildDispatchesOnProto :
    State.reset.ctx.live = false ∧
    (live15.ctx.live = true ∧ live15.ctx.proto = .v15 ∧ live15.ctx.v15Active = false ∧
      (zeros 255).length ≤ 255) ∧
    (live20.ctx.live = true ∧ live20.ctx.proto = .v20 ∧ live20.ctx.v20State ≠ .active ∧ OemFits live20.cfg 0x10#6 none ∧
      ([] : Bytes).length ≤ 65535) := by
  exact ⟨rfl, ⟨rfl, rfl, rfl, by rw [zeros_length]⟩, by decide⟩
theorem witness_ParseDispatchesOnProto :
    (live15.ctx.proto = .v15 ∧ Whole15 frame15 ∧ ¬ Whole15 (frame15.take 11)) ∧
    (live20.ctx.proto = .v20 ∧ Whole20 live20.cfg frameAuth ∧ ¬ Whole20 live20.cfg (frameAuth.take 17)) := by decide
theorem witness_BuildThenParse :
    (exec (.build [0xAA#8, 0xBB#8] 0x10#6 none) live20 = .next (live20.finish (.bytes frame20) []) ∧
      (live20.finish (.bytes frame20) []).report = some { ended := .ok (.bytes frame20), trace := [] }) ∧
    (exec (.build [0xAA#8, 0xBB#8] 0x10#6 none) live15 = .next (live15.finish (.bytes frame15) []) ∧
      (live15.finish (.bytes frame15) []).report = some { ended := .ok (.bytes frame15), trace := [] }) := by
  exact ⟨⟨rfl, rfl⟩, ⟨rfl, rfl⟩⟩
theorem witness_FrameLengths :
    (exec (.gen15 [0xAA#8, 0xBB#8]) live20 = .next (live20.finish (.bytes frame15) []) ∧
      (live20.finish (.bytes frame15) []).report = some { ended := .ok (.bytes frame15), trace := [] }) ∧
    (exec (.gen20 [0xAA#8, 0xBB#8] 0x10#6 none) live20 = .next (live20.finish (.bytes frame20) []) ∧
      (live20.finish (.bytes frame20) []).report = some { ended := .ok (.bytes frame20), trace := [] }) := by
  exact ⟨⟨rfl, rfl⟩, ⟨rfl, rfl⟩⟩

/-- V46.4's shape, and E4's with an empty payload. -/
theorem witness_SessionValuesEmbedded :
    ((∃ t frame trace, exec (.gen15 [0xAA#8]) (auth15 (.ok code16)) = .next t ∧
        t.report = some { ended := .ok (.bytes frame), trace := trace }) ∧
      (auth15 (.ok code16)).ctx.v15Active = true ∧ (auth15 (.ok code16)).ctx.v15AuthType ≠ 0x00#8) ∧
    ((∃ t frame trace, exec (.gen20 [0x01#8] 0x00#6 none) (active20 0#32 (.ok []) []) = .next t ∧
        t.report = some { ended := .ok (.bytes frame), trace := trace }) ∧
      (∃ t frame trace, exec (.build [0x01#8] 0x00#6 none) (active20 0#32 (.ok []) []) = .next t ∧
        t.report = some { ended := .ok (.bytes frame), trace := trace }) ∧
      (active20 0#32 (.ok []) []).ctx.proto = .v20 ∧ (active20 0#32 (.ok []) []).ctx.v20State = .active) := by
  exact ⟨⟨⟨_, _, _, rfl, rfl⟩, rfl, by decide⟩, ⟨_, _, _, rfl, rfl⟩, ⟨_, _, _, rfl, rfl⟩, rfl, rfl⟩

theorem witness_OnlyContextOperationsWriteContext :
    exec (.padSize 13) live20 = .next (live20.finish (.nat 3) []) ∧ (Instr.padSize 13).isPure = true ∧
    (∃ t, exec (.gen15 []) live20 = .next t) ∧ (Instr.gen15 []).isPort = true := by exact ⟨rfl, rfl, ⟨_, rfl⟩, rfl⟩
theorem witness_OnlyGeneratorsCallCollaborators :
    exec (.padSize 13) live20 = .next (live20.finish (.nat 3) []) ∧ (Instr.padSize 13).mayCall = false := by
  exact ⟨rfl, rfl⟩
theorem witness_PureOperationsIgnoreContext : (Instr.padSize 13).isPure = true := by rfl
theorem witness_NoContextComesFirst :
    State.reset.ctx.live = false ∧ Instr.ctxRead.isPure = false ∧ (∀ p, Instr.ctxRead ≠ .ctxCreate p) ∧
    (Instr.gen20 [] 0x02#6 none).isPure = false ∧ ¬ OemFits State.reset.cfg 0x02#6 none := by
  exact ⟨rfl, rfl, nofun, rfl, by decide⟩
/-- The table of R260, row by row. -/
theorem test_error_codes :
    [Error.bufferTooShort .codec, .collaboratorFailure .ac .failed, .payloadTooLong .limit255,
      .illegalTransition .v15AuthTypeFixed, .unwrittenContext .v15Sid, .noContext].map Error.code =
      [1#8, 2#8, 3#8, 4#8, 5#8, 6#8] := by decide
theorem witness_ErrorsLeaveContext :
    exec .ctxRead State.reset = .next (State.reset.raiseError .noContext []) ∧
    (State.reset.raiseError .noContext []).report = some { ended := .err .noContext, trace := [] } := by
  exact ⟨rfl, rfl⟩
theorem witness_RefusalsLeaveContext :
    exec (.trlUnpack [] 0 4) live20 = .next (live20.refuse (.operandRange .p)) ∧
    (live20.refuse (.operandRange .p)).report = some { ended := .refused (.operandRange .p), trace := [] } := by
  exact ⟨rfl, rfl⟩

/-- Operands at the last number of their type and at the first beyond it (R272; V42.12 for H20_PACK), a later operand
named only once the ones before it fit, a wrong operand list, and an unassigned tag. -/
theorem witness_OperandsOutOfRangeRefused :
    (typedOperands 0x12#8 [.h20 ⟨6, 0, 0, 0x40, none, 0, 0, 0⟩]).map firstOutOfType = some (some .pt) ∧
    (typedOperands 0x12#8 [.h20 ⟨6, 1, 1, 0x3F, none, 0xFFFFFFFF, 0xFFFFFFFF, 0xFFFF⟩]).map firstOutOfType = some none ∧
    (typedOperands 0x16#8 [.bytes [], .num 0, .num 3]).map firstOutOfType = some none ∧
    (typedOperands 0x16#8 [.bytes [], .num 0, .num 4]).map firstOutOfType = some (some .p) ∧
    (typedOperands 0x33#8 [.num 2, .num 256]).map firstOutOfType = some (some .active) ∧
    (typedOperands 0x33#8 [.num 1, .num 256]).map firstOutOfType = some (some .authType) ∧
    (typedOperands 0x41#8 [.bytes [], .num 2, .oem (some ⟨0xFFFFFFFF, 0x10000⟩)]).map firstOutOfType = some (some .pid) ∧
    (typedOperands 0x39#8 [.num 8]).map firstOutOfType = some (some .target) ∧
    typedOperands 0x39#8 [] = none ∧
    decode .default (.op 0x39#8 []) ≠ .error (.refuse (.reservedOp 0x39#8)) ∧
    typedOperands 0x44#8 [] = none := by decide
theorem witness_DecodeOfEncode :
    Instr.wf .default (.trlUnpack [] 0 3) = true ∧ Instr.wf .default (.wireW15a 0x02#8 0#32 0#32 code16 0#8) = true ∧
    Instr.wf .default (.wireWtrl [0xFF#8, 0xFF#8, 0xFF#8] 3#8 0x07#8 code16) = true := by decide
theorem witness_EncodeOfDecode : decode .default (.op 0x14#8 [.num 13]) = .ok (.padSize 13) := by rfl
theorem witness_StepRunsDecodedInstruction :
    ({ live20 with pending := [.op 0x14#8 [.num 13]] } : State).pending = .op 0x14#8 [.num 13] :: [] ∧
    decode live20.cfg (.op 0x14#8 [.num 13]) = .ok (.padSize 13) := by exact ⟨rfl, rfl⟩
theorem witness_StepRejectsByName :
    State.reset.pending = [] ∧
    (({ live20 with pending := [.op 0x0A#8 []] } : State).pending = .op 0x0A#8 [] :: [] ∧
      decode live20.cfg (.op 0x0A#8 []) = .error (.refuse (.reservedOp 0x0A#8))) ∧
    (({ live20 with pending := [.header15 []] } : State).pending = .header15 [] :: [] ∧
      decode live20.cfg (.header15 []) = .error (.raise (.bufferTooShort .header))) := by
  exact ⟨rfl, ⟨rfl, rfl⟩, ⟨rfl, rfl⟩⟩
theorem witness_StepKeepsReportsSound :
    State.reset.Sound ∧
    step { State.reset with pending := [.op 0x30#8 [.num 0]] } =
      .next ({ State.reset with pos := 1 }.writeCtx (Context.created .v15)) := by
  exact ⟨nofun, rfl⟩
theorem witness_WireHeaderRowsReadTheirFields :
    (0x02#8 : Byte) ≠ 0x00#8 ∧ code16.length = 16 ∧ (0x10#6 : UInt6) ≠ live20.cfg.ptOem := by decide
theorem witness_WireTrailerRowReadsItsFields :
    ([0xFF#8, 0xFF#8, 0xFF#8] : Bytes).length ≤ 3 ∧ code16.length ≤ 16 := by decide

end Sys2Proof.Tests
end

section
/-! SUPPORT. How the operations of each family end, said once: a settled read, write or pack (families 40 to 44 and the
wire rows), a context operation's error or register write (family 45), a generator's report (family 46). From these, the
statements of 10_state.md about everything the block hands the host. -/

namespace Sys2Proof.Machine

/-! ### Readings that fail only for want of bytes (R14, R261) -/

/-- A reading or writing that raises nothing but BufferTooShort. -/
def ShortOnly {α : Type} (x : Except Error α) : Prop := ∀ e, x = .error e → ∃ tag, e = .bufferTooShort tag

theorem ShortOnly.map {α β : Type} {x : Except Error α} (h : ShortOnly x) (f : α → β) : ShortOnly (x.map f) := by
  cases x with
  | ok a => exact nofun
  | error e => rintro _ ⟨⟩; exact h e rfl

theorem memRead_shortOnly (tag : Tag) (buf : Bytes) (addr n : Nat) : ShortOnly (memRead tag buf addr n) :=
  fun _ h => ⟨tag, memRead_error h⟩

theorem memWrite_shortOnly (tag : Tag) (buf : Bytes) (addr : Nat) (v : Bytes) : ShortOnly (memWrite tag buf addr v) :=
  fun _ h => ⟨tag, memWrite_error h⟩

theorem readUpto_shortOnly (tag : Tag) (buf : Bytes) (off n : Nat) : ShortOnly (readUpto tag buf off n) := by
  intro e h
  by_cases hl : buf.length < off
  · rw [readUpto_eq_error hl] at h; cases h; exact ⟨tag, rfl⟩
  · rw [readUpto_eq_ok (Nat.not_lt.1 hl)] at h; cases h

theorem readHeader15_shortOnly (buf : Bytes) : ShortOnly (readHeader15 buf) :=
  fun _ h => ⟨.header, readHeader15_error h⟩

theorem readHeader20_shortOnly (cfg : Config) (buf : Bytes) : ShortOnly (readHeader20 cfg buf) :=
  fun _ h => ⟨.header, readHeader20_error h⟩

theorem readTrailer_shortOnly (buf : Bytes) (off p : Nat) : ShortOnly (readTrailer buf off p) := by
  intro e h
  by_cases hl : buf.length < off + p + 2
  · rw [readTrailer_eq_error hl] at h; cases h; exact ⟨.trailer, rfl⟩
  · rw [readTrailer_eq_ok (Nat.not_lt.1 hl)] at h; cases h

theorem readFrame15_shortOnly (buf : Bytes) : ShortOnly (readFrame15 buf) := fun _ h => readFrame15_error h

theorem readFrame20_shortOnly (cfg : Config) (buf : Bytes) : ShortOnly (readFrame20 cfg buf) :=
  fun _ h => readFrame20_error h

/-- A trailer read has the pad count asked for, and at most 16 bytes of auth code (R166). -/
theorem readTrailer_ok_cases {buf : Bytes} {off p next : Nat} {t : Trl} (h : readTrailer buf off p = .ok (t, next)) :
    t.pad.length = p ∧ t.authCode.length ≤ 16 := by
  by_cases hl : buf.length < off + p + 2
  · rw [readTrailer_eq_error hl] at h; cases h
  · rw [readTrailer_eq_ok (Nat.not_lt.1 hl)] at h
    cases h
    simp [bytesAt]; omega

/-! ### All a decoding raises is BufferTooShort (R88, R92, R272) -/

/-- A decoding that raises nothing but BufferTooShort; every other failure is a refusal. -/
def RaisesShortOnly {α : Type} (x : Except Reject α) : Prop :=
  ∀ e, x = .error (.raise e) → ∃ tag, e = .bufferTooShort tag

@[simp] theorem raisesShortOnly_ok {α : Type} (a : α) : RaisesShortOnly (.ok a : Except Reject α) := nofun

@[simp] theorem raisesShortOnly_refuse {α : Type} (r : Reason) :
    RaisesShortOnly (.error (.refuse r) : Except Reject α) := nofun

@[simp] theorem orRaise_raisesShortOnly_iff {α : Type} (x : Except Error α) :
    RaisesShortOnly (orRaise x) ↔ ShortOnly x := by
  cases x <;> simp [RaisesShortOnly, ShortOnly, orRaise]

@[simp] theorem raisesShortOnly_map_iff {α β : Type} (x : Except Reject α) (f : α → β) :
    RaisesShortOnly (x.map f) ↔ RaisesShortOnly x := by
  cases x <;> simp [RaisesShortOnly, Except.map]

@[simp] theorem raisesShortOnly_bind_iff {α β : Type} (x : Except Reject α) (f : α → Except Reject β) :
    RaisesShortOnly (x >>= f) ↔ RaisesShortOnly x ∧ ∀ a, x = .ok a → RaisesShortOnly (f a) := by
  cases x <;> simp [RaisesShortOnly, bind, Except.bind]

@[simp] theorem asField_raisesShortOnly (w : Nat) (name : OperandName) (n : Nat) :
    RaisesShortOnly (asField w name n) := by
  unfold asField; split <;> simp

@[simp] theorem asBool_raisesShortOnly (name : OperandName) (n : Nat) : RaisesShortOnly (asBool name n) := by
  unfold asBool; split <;> simp

@[simp] theorem asProto_raisesShortOnly (n : Nat) : RaisesShortOnly (asProto n) := by unfold asProto; split <;> simp

@[simp] theorem asState_raisesShortOnly (n : Nat) : RaisesShortOnly (asState n) := by unfold asState; split <;> simp

@[simp] theorem asPadCount_raisesShortOnly (n : Nat) : RaisesShortOnly (asPadCount n) := by
  unfold asPadCount; split <;> simp

@[simp] theorem asOem_raisesShortOnly (o : Option RawOem) : RaisesShortOnly (asOem o) := by cases o <;> simp [asOem]

@[simp] theorem asTrl_raisesShortOnly (r : RawTrl) : RaisesShortOnly (asTrl r) := by simp [asTrl]

@[simp] theorem asTrailer_raisesShortOnly (o : Option RawTrl) : RaisesShortOnly (asTrailer o) := by
  cases o <;> simp [asTrailer]

@[simp] theorem asH15_raisesShortOnly (r : RawH15) : RaisesShortOnly (asH15 r) := by simp [asH15]

@[simp] theorem asH20_raisesShortOnly (r : RawH20) : RaisesShortOnly (asH20 r) := by simp [asH20]

@[simp] theorem asS15_raisesShortOnly (r : RawS15) : RaisesShortOnly (asS15 r) := by simp [asS15]

@[simp] theorem asS20_raisesShortOnly (r : RawS20) : RaisesShortOnly (asS20 r) := by simp [asS20]

@[simp] theorem wrongOperands_raisesShortOnly : RaisesShortOnly wrongOperands := raisesShortOnly_refuse _

/-- An operation's request is decoded or refused: no branch of the opcode map raises (R92, R272). -/
theorem decodeOp_raisesShortOnly (tag : Byte) (ops : List Operand) : RaisesShortOnly (decodeOp tag ops) := by
  unfold decodeOp decPutU8 decPutU16le decPutU32le decPutBytes decGetU8 decGetU16le decGetU32le decGetBytes
    decGetBytesUpto decH15Pack decH15Unpack decH20Pack decH20Unpack decPadSize decTrlPack decTrlUnpack decS15Pack
    decS15Unpack decS20Pack decS20Unpack decCtxCreate decCtxDestroy decCtxRead decCtxSetV15 decCtxSetV15Sid
    decCtxSetV15Seq decCtxSetV20Sid decCtxSetV20Seq decCtxSetV20Keys decSmAdvance decSmReset decGen15 decGen20
    decBuild decParse
  repeat' split
  all_goals simp

/-- The decoder raises nothing but BufferTooShort, for bytes too few for their wire format (R88, R261). -/
theorem decode_raisesShortOnly (cfg : Config) (r : Request) : RaisesShortOnly (decode cfg r) := by
  cases r with
  | op tag ops => exact decodeOp_raisesShortOnly tag ops
  | header15 buf => simp [decode, readHeader15_shortOnly]
  | header20 buf => simp [decode, readHeader20_shortOnly]
  | trailer p buf => simp [decode, readTrailer_shortOnly]

/-! ### What makes a report sound -/

theorem State.finish_sound {s : State} {out : Output} {trace : List Event} (ht : SoundTrace trace)
    (ho : SoundOutput s.cfg s.ctx out) : (s.finish out trace).Sound := by
  rintro _ ⟨⟩; exact ⟨ht, ho⟩

theorem State.raiseError_sound {s : State} {e : Error} {trace : List Event} (ht : SoundTrace trace)
    (he : SoundError s.ctx trace e) : (s.raiseError e trace).Sound := by
  rintro _ ⟨⟩; exact ⟨ht, he⟩

theorem State.refuse_sound (s : State) (r : Reason) : (s.refuse r).Sound := by
  rintro _ ⟨⟩; exact ⟨.inl rfl, rfl, rfl⟩

theorem State.writeCtx_sound (s : State) (c : Context) : (s.writeCtx c).Sound :=
  State.finish_sound (.inl rfl) trivial

theorem State.noContext_sound {s : State} (h : s.ctx.live = false) : (s.raiseError .noContext []).Sound :=
  State.raiseError_sound (.inl rfl) ⟨rfl, h⟩

/-- What an operation that settles may settle with: an output that is sound here, or BufferTooShort. -/
def SoundAnswer (s : State) (x : Except Error Output) : Prop :=
  (∀ out, x = .ok out → SoundOutput s.cfg s.ctx out) ∧ ShortOnly x

theorem SoundAnswer.ok {s : State} {out : Output} (h : SoundOutput s.cfg s.ctx out) : SoundAnswer s (.ok out) :=
  ⟨by rintro _ ⟨⟩; exact h, nofun⟩

theorem SoundAnswer.map {s : State} {α : Type} {x : Except Error α} {f : α → Output} (hx : ShortOnly x)
    (hf : ∀ a, x = .ok a → SoundOutput s.cfg s.ctx (f a)) : SoundAnswer s (x.map f) := by
  refine ⟨?_, hx.map f⟩
  cases x with
  | ok a => rintro _ ⟨⟩; exact hf a rfl
  | error e => exact nofun

theorem State.settle_sound {s : State} {x : Except Error Output} (h : SoundAnswer s x) : (s.settle x).Sound := by
  obtain ⟨hok, hshort⟩ := h
  cases x with
  | ok out => exact State.finish_sound (.inl rfl) (hok out rfl)
  | error e =>
    obtain ⟨tag, rfl⟩ := hshort e rfl
    exact State.raiseError_sound (.inl rfl) rfl

/-! ### Families 40 to 44 and the wire rows: settled, or refused -/

/-- The two ways an operation of these families ends in `s`; PARSE on a live context ends so too. -/
inductive PureEnd (s : State) : State → Prop
  | settled {x : Except Error Output} (h : SoundAnswer s x) : PureEnd s (s.settle x)
  | refused (r : Reason) : PureEnd s (s.refuse r)

theorem PureEnd.packOr (s : State) (broken : Option Check) (b : Bytes) : PureEnd s (s.packOr broken b) := by
  cases broken with
  | none => exact .settled (x := .ok (.bytes b)) (.ok trivial)
  | some c => exact .refused _

theorem PureEnd.map {s : State} {α : Type} {x : Except Error α} {f : α → Output} (hx : ShortOnly x)
    (hf : ∀ a, x = .ok a → SoundOutput s.cfg s.ctx (f a)) : PureEnd s (s.settle (x.map f)) :=
  .settled (.map hx hf)

theorem PureEnd.trailer (buf : Bytes) (off : Nat) {p : Nat} (hp : p ≤ 3) (s : State) :
    PureEnd s (s.settle ((readTrailer buf off p).map fun r => .trl r.1 r.2)) :=
  .map (readTrailer_shortOnly buf off p) fun _ h => by
    obtain ⟨hpad, hcode⟩ := readTrailer_ok_cases h
    exact ⟨hpad ▸ hp, hcode⟩

theorem PureEnd.header15 (buf : Bytes) (s : State) :
    PureEnd s (s.settle ((readHeader15 buf).map fun r => .h15 r.1 r.2)) :=
  .map (readHeader15_shortOnly buf) fun _ h => by
    obtain ⟨hv, hsize, -⟩ := readHeader15_ok_cases h
    exact ⟨hv, hsize⟩

theorem PureEnd.header20 (buf : Bytes) (s : State) :
    PureEnd s (s.settle ((readHeader20 s.cfg buf).map fun r => .h20 r.1 r.2)) :=
  .map (readHeader20_shortOnly s.cfg buf) fun _ h => by
    obtain ⟨hoem, hsize, -⟩ := readHeader20_ok_cases h
    exact ⟨hoem, hsize⟩

/-- Every operation of families 40 to 44 and every wire row settles or is refused. -/
theorem exec_isPure {i : Instr} (hi : i.isPure = true) (s : State) : ∃ t, exec i s = .next t ∧ PureEnd s t := by
  cases i with
  | putU8 buf off v | putU16le buf off v | putU32le buf off v | putBytes buf off v =>
    exact ⟨_, rfl, .map (memWrite_shortOnly _ _ _ _) fun _ _ => trivial⟩
  | getU8 buf off | getU16le buf off | getU32le buf off =>
    exact ⟨_, rfl, .map ((memRead_shortOnly _ _ _ _).map _) fun _ _ => trivial⟩
  | getBytes buf off n => exact ⟨_, rfl, .map (memRead_shortOnly _ _ _ _) fun _ _ => trivial⟩
  | getBytesUpto buf off n => exact ⟨_, rfl, .map (readUpto_shortOnly _ _ _ _) fun _ _ => trivial⟩
  | h15Pack _ | h20Pack _ | trlPack _ | s15Pack _ | s20Pack _ => exact ⟨_, rfl, .packOr ..⟩
  | h15Unpack buf | wireW15n _ _ _ | wireW15a _ _ _ _ _ => exact ⟨_, rfl, .header15 ..⟩
  | h20Unpack buf | wireW20 _ _ _ _ _ _ _ | wireW20o _ _ _ _ _ _ _ _ => exact ⟨_, rfl, .header20 ..⟩
  | padSize l => exact ⟨_, rfl, .settled (x := .ok (.nat (padSize l))) (.ok (padSize_le l))⟩
  | s15Unpack buf => exact ⟨_, rfl, .map (readFrame15_shortOnly buf) fun _ h => readFrame15_ok_cases h⟩
  | s20Unpack buf => exact ⟨_, rfl, .map (readFrame20_shortOnly s.cfg buf) fun _ h => readFrame20_ok_cases h⟩
  | trlUnpack buf off p =>
    by_cases hp : p ≤ 3
    · exact ⟨_, if_pos hp, .trailer buf off hp s⟩
    · exact ⟨_, if_neg hp, .refused _⟩
  | wireWtrl pad _ _ _ =>
    by_cases hp : pad.length ≤ 3
    · exact ⟨_, if_pos hp, .trailer _ 0 hp s⟩
    · exact ⟨_, if_neg hp, .refused _⟩
  | _ => cases hi

theorem PureEnd.sound {s t : State} (h : PureEnd s t) : t.Sound := by
  cases h with
  | settled hx => exact State.settle_sound hx
  | refused r => exact State.refuse_sound s r

theorem PureEnd.ctx {s t : State} (h : PureEnd s t) : t.ctx = s.ctx := by
  cases h with
  | settled => exact State.settle_ctx ..
  | refused r => rfl

/-- What R39 says of an operation that calls no collaborator: the ports stand as they were, and the trace is empty. -/
def CallsNobody (s t : State) : Prop := t.collab = s.collab ∧ ∃ e, t.report = some { ended := e, trace := [] }

theorem PureEnd.callsNobody {s t : State} (h : PureEnd s t) : CallsNobody s t := by
  cases h with
  | @settled x =>
    obtain ⟨e, he⟩ := State.settle_eq s x
    rw [he]
    exact ⟨rfl, e, rfl⟩
  | refused r => exact ⟨rfl, _, rfl⟩

/-! ### Family 45: an error, or a write of the registers -/

/-- What no operation but CTX_CREATE and CTX_DESTROY changes: PROTO (R26), and the auth type of a session that is and
stays active (R28). -/
def KeepsFixed (c c' : Context) : Prop :=
  c'.proto = c.proto ∧ (c.v15Active = true → c'.v15Active = true → c'.v15AuthType = c.v15AuthType)

/-- How an operation of family 45 ends in `s`. -/
inductive ContextEnd (i : Instr) (s : State) : State → Prop
  | noContext (h : s.ctx.live = false) : ContextEnd i s (s.raiseError .noContext [])
  | illegal {x : Transition} (h : SoundError s.ctx [] (.illegalTransition x)) :
    ContextEnd i s (s.raiseError (.illegalTransition x) [])
  | created {proto : Proto} (h : i = .ctxCreate proto) : ContextEnd i s (s.writeCtx (Context.created proto))
  | destroyed : ContextEnd i s (({ s with draws := s.draws + 1 }).writeCtx (Context.destroyed s.draws))
  | read (h : s.ctx.live = true) : ContextEnd i s (s.finish (.context s.ctx) [])
  | written {c : Context} (h : KeepsFixed s.ctx c) : ContextEnd i s (s.writeCtx c)

theorem ContextEnd.needCtx {i : Instr} {s goOn : State} (h : s.ctx.live = true → ContextEnd i s goOn) :
    ContextEnd i s (s.needCtx goOn) := by
  obtain ⟨hl, he⟩ | ⟨hl, he⟩ := State.needCtx_cases s goOn
  · rw [he]; exact h hl
  · rw [he]; exact .noContext hl

/-- An operation that is neither pure nor of family 46 is one of family 45, and ends as one. -/
theorem exec_contextOp {i : Instr} (hpure : i.isPure = false) (hport : i.isPort = false) (s : State) :
    ∃ t, exec i s = .next t ∧ ContextEnd i s t := by
  cases i with
  | ctxCreate proto => exact ⟨_, rfl, .created rfl⟩
  | ctxDestroy => exact ⟨_, rfl, .needCtx fun _ => .destroyed⟩
  | ctxRead => exact ⟨_, rfl, .needCtx .read⟩
  | ctxSetV15Sid _ | ctxSetV15Seq _ | ctxSetV20Sid _ | ctxSetV20Seq _ | ctxSetV20Keys _ | smReset =>
    exact ⟨_, rfl, .needCtx fun _ => .written ⟨rfl, fun _ _ => rfl⟩⟩
  | ctxSetV15 active authType =>
    refine ⟨_, rfl, .needCtx fun _ => ?_⟩
    split
    · next h => exact .illegal ⟨rfl, h.1⟩
    · next h => exact .written ⟨rfl, fun ha hb => by_contra fun hne => h ⟨ha, hb, hne⟩⟩
  | smAdvance target =>
    refine ⟨_, rfl, .needCtx fun _ => ?_⟩
    split
    · next h =>
      refine .illegal ⟨rfl, rfl, ?_⟩
      obtain hclosed | hcode := h
      · rw [hclosed]; cases target <;> decide
      · exact hcode
    · exact .written ⟨rfl, fun _ _ => rfl⟩
  | gen15 _ | gen20 _ _ _ | build _ _ _ | parse _ => cases hport
  | _ => cases hpure

theorem ContextEnd.sound {i : Instr} {s t : State} (h : ContextEnd i s t) : t.Sound := by
  cases h with
  | noContext hl => exact State.noContext_sound hl
  | illegal he => exact State.raiseError_sound (.inl rfl) he
  | created | destroyed | written => exact State.writeCtx_sound _ _
  | read hl => exact State.finish_sound (.inl rfl) ⟨rfl, hl⟩

theorem ContextEnd.callsNobody {i : Instr} {s t : State} (h : ContextEnd i s t) : CallsNobody s t := by
  cases h <;> exact ⟨rfl, _, rfl⟩

theorem KeepsFixed.refl (c : Context) : KeepsFixed c c := ⟨rfl, fun _ _ => rfl⟩

/-- Only CTX_CREATE, and a CTX_DESTROY that leaves no context, change what R26 and R28 fix. -/
theorem ContextEnd.keepsFixed {i : Instr} {s t : State} (h : ContextEnd i s t) (hlive : t.ctx.live = true)
    (hi : ∀ p, i ≠ .ctxCreate p) : KeepsFixed s.ctx t.ctx := by
  cases h with
  | noContext | illegal | read => exact KeepsFixed.refl s.ctx
  | created hc => exact absurd hc (hi _)
  | destroyed => cases hlive
  | written hc => exact hc

/-! ### Family 46: the traces and the causes of the generators' errors -/

theorem State.gen15_sound (raw : Bytes) (s : State) : (s.gen15 raw).Sound := by
  obtain ⟨hl, h⟩ | ⟨-, -, h⟩ | ⟨-, -, -, h⟩ | ⟨-, -, -, hauth⟩ := State.gen15_cases raw s
  · rw [h]; exact State.noContext_sound hl
  · rw [h]; exact State.raiseError_sound (.inl rfl) rfl
  · rw [h]; exact State.finish_sound (.inl rfl) trivial
  obtain ⟨hsid, h⟩ | ⟨_, -, hseq, h⟩ | ⟨sid, seq, -, -, h⟩ := hauth
  · rw [h]; exact State.raiseError_sound (.inl rfl) ⟨rfl, hsid⟩
  · rw [h]; exact State.raiseError_sound (.inl rfl) ⟨rfl, hseq⟩
  rw [h]
  obtain ⟨-, h⟩ | ⟨code, -, hlen, h⟩ | ⟨code, -, -, h⟩ :=
    State.gen15WithAnswer_cases raw sid seq s.acAnswer s.afterAc
  · rw [h]; exact State.raiseError_sound (.inr (.inl ⟨raw, _, rfl⟩)) ⟨raw, rfl⟩
  · rw [h]; exact State.raiseError_sound (.inr (.inl ⟨raw, _, rfl⟩)) ⟨raw, code, rfl, hlen⟩
  · rw [h]; exact State.finish_sound (.inr (.inl ⟨raw, _, rfl⟩)) trivial

/-- The last two bytes of a v2.0 header are its payload length (R72). -/
theorem u16At_header20Bytes (h : H20) :
    u16At (header20Bytes h) ((header20Bytes h).length - 2) = h.payloadLen := by
  obtain ⟨pre, hsplit⟩ : ∃ pre, header20Bytes h = pre ++ (le16 h.payloadLen ++ []) :=
    ⟨_, by rw [header20Bytes, List.append_nil]⟩
  have hlen : (header20Bytes h).length - 2 = pre.length := by rw [hsplit]; simp
  rw [hlen, hsplit, u16At_le16]

/-- A trace of ENC and then TRLGEN is sound when the header handed to TRLGEN carries the length of ENC's answer
(R235). -/
theorem soundTrace_enc_trlgen {raw p : Bytes} {k : Option Key} {h : H20} {a : Answer Trl}
    (hlen : h.payloadLen = BitVec.ofNat 16 p.length) (hp : p.length ≤ 65535) :
    SoundTrace [.enc raw k (.ok p), .trlgen (header20Bytes h) p a] :=
  .inr (.inr (.inr ⟨raw, k, header20Bytes h, p, a, rfl, (u16At_header20Bytes h).trans hlen, hp⟩))

theorem soundTrace_enc (raw : Bytes) (k : Option Key) (a : Answer Bytes) : SoundTrace [.enc raw k a] :=
  .inr (.inr (.inl ⟨raw, k, a, rfl⟩))

/-- GEN20 over ENC's payload, the trailer included (R233 to R235). -/
theorem State.gen20Sealed_enc_sound (pt : UInt6) (oem : Option Oem) (sid seq : U32) (raw p : Bytes) (s : State) :
    (s.gen20Sealed true pt oem sid seq p [.enc raw s.ctx.v20Keys (.ok p)]).Sound := by
  obtain ⟨hlong, h⟩ | ⟨-, -, h⟩ | ⟨hp, -, h⟩ :=
    State.gen20Sealed_cases true pt oem sid seq p [.enc raw s.ctx.v20Keys (.ok p)] s
  · rw [h]; exact State.raiseError_sound (soundTrace_enc ..) (.inr ⟨raw, p, rfl, hlong⟩)
  · rw [h]; exact State.finish_sound (soundTrace_enc ..) trivial
  have htrace : ∀ a, SoundTrace ([.enc raw s.ctx.v20Keys (.ok p)] ++
      [.trlgen (header20Bytes (gen20Header true pt oem sid seq p)) p a]) := fun _ => soundTrace_enc_trlgen rfl hp
  rw [h]
  obtain ⟨-, h⟩ | ⟨t, -, hbad, h⟩ | ⟨t, -, -, -, h⟩ := State.gen20WithTrailer_cases
    (header20Bytes (gen20Header true pt oem sid seq p)) p s.trlgenAnswer [.enc raw s.ctx.v20Keys (.ok p)] s.afterTrlgen
  · rw [h]; exact State.raiseError_sound (htrace _) ⟨raw, _, p, rfl⟩
  · rw [h]; exact State.raiseError_sound (htrace _) ⟨raw, _, p, t, rfl, hbad⟩
  · rw [h]; exact State.finish_sound (htrace _) trivial

/-- GEN20 outside Active calls nobody: with the session ID 0 it asks for no trailer (R233). -/
theorem State.gen20Sealed_raw_sound (pt : UInt6) (oem : Option Oem) (sid seq : U32) (raw : Bytes) (s : State) :
    (s.gen20Sealed false pt oem sid seq raw []).Sound := by
  obtain ⟨-, h⟩ | ⟨-, -, h⟩ | ⟨-, ⟨hactive, -⟩, -⟩ := State.gen20Sealed_cases false pt oem sid seq raw [] s
  · rw [h]; exact State.raiseError_sound (.inl rfl) (.inl rfl)
  · rw [h]; exact State.finish_sound (.inl rfl) trivial
  · cases hactive

theorem State.gen20Active_sound (raw : Bytes) (pt : UInt6) (oem : Option Oem) (s : State) :
    (s.gen20Active raw pt oem).Sound := by
  obtain ⟨hsid, h⟩ | ⟨_, -, hseq, h⟩ | ⟨_, _, -, -, -, h⟩ | ⟨sid, seq, p, -, -, -, h⟩ :=
    State.gen20Active_cases raw pt oem s
  · rw [h]; exact State.raiseError_sound (.inl rfl) ⟨rfl, hsid⟩
  · rw [h]; exact State.raiseError_sound (.inl rfl) ⟨rfl, hseq⟩
  · rw [h]; exact State.raiseError_sound (soundTrace_enc ..) ⟨raw, rfl⟩
  · rw [h]; exact State.gen20Sealed_enc_sound pt oem sid seq raw p s.afterEnc

theorem State.gen20_sound (raw : Bytes) (pt : UInt6) (oem : Option Oem) (s : State) : (s.gen20 raw pt oem).Sound := by
  obtain ⟨name, -, -, h⟩ | ⟨-, hl, h⟩ | ⟨-, -, -, h⟩ | ⟨-, -, -, h⟩ := State.gen20_cases raw pt oem s
  · rw [h]; exact State.refuse_sound s _
  · rw [h]; exact State.noContext_sound hl
  · rw [h]; exact State.gen20Active_sound raw pt oem s
  · rw [h]; exact State.gen20Sealed_raw_sound pt oem 0#32 0#32 raw s

/-! ### PARSE: a missing context, or a settled reading -/

theorem PureEnd.parsed15 (frame : Bytes) (s : State) :
    PureEnd s (s.settle ((readFrame15 frame).map fun f => .parsed15 f.payload f)) :=
  .map (readFrame15_shortOnly frame) fun _ h => ⟨rfl, readFrame15_ok_cases h⟩

theorem PureEnd.parsed20 (frame : Bytes) (s : State) :
    PureEnd s (s.settle ((readFrame20 s.cfg frame).map fun f => .parsed20 f.payload f)) :=
  .map (readFrame20_shortOnly s.cfg frame) fun _ h => ⟨rfl, readFrame20_ok_cases h⟩

/-- PARSE ends in NoContext, or as an unpack does (R239). -/
theorem exec_parse (frame : Bytes) (s : State) :
    ∃ t, exec (.parse frame) s = .next t ∧
      (s.ctx.live = false ∧ t = s.raiseError .noContext [] ∨ PureEnd s t) := by
  refine ⟨_, rfl, ?_⟩
  obtain ⟨-, h⟩ | ⟨hl, h⟩ := State.needCtx_cases s _
  · right
    rw [h]
    cases s.ctx.proto with
    | v15 => exact .parsed15 frame s
    | v20 => exact .parsed20 frame s
  · exact .inl ⟨hl, h⟩

/-- Every operation of family 46 reports soundly and leaves the registers (R42). -/
theorem exec_isPort {i : Instr} (hi : i.isPort = true) (s : State) :
    ∃ t, exec i s = .next t ∧ t.Sound ∧ t.ctx = s.ctx := by
  cases i with
  | gen15 raw => exact ⟨_, rfl, State.gen15_sound raw s, State.gen15_ctx raw s⟩
  | gen20 raw pt oem => exact ⟨_, rfl, State.gen20_sound raw pt oem s, State.gen20_ctx raw pt oem s⟩
  | build raw pt oem =>
    refine ⟨_, rfl, ?_⟩
    obtain ⟨-, h⟩ | ⟨hl, h⟩ := State.needCtx_cases s _
    · rw [h]
      cases s.ctx.proto with
      | v15 => exact ⟨State.gen15_sound raw s, State.gen15_ctx raw s⟩
      | v20 => exact ⟨State.gen20_sound raw pt oem s, State.gen20_ctx raw pt oem s⟩
    · rw [h]; exact ⟨State.noContext_sound hl, rfl⟩
  | parse frame =>
    obtain ⟨_, he, ⟨hl, rfl⟩ | hend⟩ := exec_parse frame s
    · exact ⟨_, he, State.noContext_sound hl, rfl⟩
    · exact ⟨_, he, hend.sound, hend.ctx⟩
  | _ => cases hi

/-! ### Every instruction -/

/-- Every instruction ends as its family does. -/
theorem exec_cases {i : Instr} {s t : State} (h : exec i s = .next t) :
    (i.isPure = true ∧ PureEnd s t) ∨ (i.isPort = true ∧ t.Sound ∧ t.ctx = s.ctx) ∨
    (i.isPure = false ∧ i.isPort = false ∧ ContextEnd i s t) := by
  cases hpure : i.isPure with
  | true =>
    obtain ⟨_, he, hend⟩ := exec_isPure hpure s
    cases he.symm.trans h
    exact .inl ⟨rfl, hend⟩
  | false =>
    cases hport : i.isPort with
    | true =>
      obtain ⟨_, he, hend⟩ := exec_isPort hport s
      cases he.symm.trans h
      exact .inr (.inl ⟨rfl, hend⟩)
    | false =>
      obtain ⟨_, he, hend⟩ := exec_contextOp hpure hport s
      cases he.symm.trans h
      exact .inr (.inr ⟨rfl, rfl, hend⟩)

theorem exec_sound {i : Instr} {s t : State} (h : exec i s = .next t) : t.Sound := by
  obtain ⟨-, hend⟩ | ⟨-, hsound, -⟩ | ⟨-, -, hend⟩ := exec_cases h
  · exact hend.sound
  · exact hsound
  · exact hend.sound

theorem State.reject_sound {s : State} {x : Reject} (hx : ∀ e, x = .raise e → ∃ tag, e = .bufferTooShort tag) :
    (s.reject x).Sound := by
  cases x with
  | refuse r => exact State.refuse_sound s r
  | raise e =>
    obtain ⟨tag, rfl⟩ := hx e rfl
    exact State.raiseError_sound (.inl rfl) rfl

/-! ### The three cases of a step (R23, R278) -/

theorem step_of_no_request {s : State} (hp : s.pending = []) : step s = .next s := by
  rw [step, hp]

theorem step_of_instr {s : State} {r : Request} {rest : List Request} {i : Instr} (hp : s.pending = r :: rest)
    (hd : decode s.cfg r = .ok i) : step s = exec i (s.issue rest) := by
  rw [step, hp]; simp only [hd]

theorem step_of_reject {s : State} {r : Request} {rest : List Request} {x : Reject} (hp : s.pending = r :: rest)
    (hd : decode s.cfg r = .error x) : step s = .next ((s.issue rest).reject x) := by
  rw [step, hp]; simp only [hd]

/-! ### The statements -/

/-- Settles O53: the case of a step in which the request decodes. -/
theorem stepRunsDecodedInstruction : Obligations.StepRunsDecodedInstruction :=
  fun _ _ _ _ hp hd => step_of_instr hp hd

/-- Settles O56: every end of every operation is sound by itself, and a step without a request hands over nothing new. -/
theorem stepKeepsReportsSound : Obligations.StepKeepsReportsSound := by
  intro s t hs h
  cases hp : s.pending with
  | nil =>
    cases (step_of_no_request hp).symm.trans h
    exact hs
  | cons r rest =>
    cases hd : decode s.cfg r with
    | ok i => exact exec_sound ((step_of_instr hp hd).symm.trans h)
    | error x =>
      cases (step_of_reject hp hd).symm.trans h
      exact State.reject_sound fun e he => decode_raisesShortOnly s.cfg r e (he ▸ hd)

/-- Settles O42: families 40 to 44 and the wire rows settle or refuse, and no generator writes a register. -/
theorem onlyContextOperationsWriteContext : Obligations.OnlyContextOperationsWriteContext := by
  intro i s t h hi
  obtain ⟨-, hend⟩ | ⟨-, -, hctx⟩ | ⟨hpure, hport, -⟩ := exec_cases h
  · exact hend.ctx
  · exact hctx
  · simp [hpure, hport] at hi

/-- Settles O29: an operation that is not of family 45 writes no register, and of those that are, CTX_SET_V15 alone
writes an auth type, behind the check of R204. -/
theorem protoAndActiveAuthTypeFixed : Obligations.ProtoAndActiveAuthTypeFixed := by
  intro i s t h hlive hi
  obtain ⟨-, hend⟩ | ⟨-, -, hctx⟩ | ⟨-, -, hend⟩ := exec_cases h
  · rw [hend.ctx]; exact KeepsFixed.refl s.ctx
  · rw [hctx]; exact KeepsFixed.refl s.ctx
  · exact hend.keepsFixed hlive hi

theorem eq_parse_of_isPort {i : Instr} (hport : i.isPort = true) (hcall : i.mayCall = false) :
    ∃ frame, i = .parse frame := by
  cases i with
  | parse frame => exact ⟨frame, rfl⟩
  | gen15 _ | gen20 _ _ _ | build _ _ _ => cases hcall
  | _ => cases hport

/-- Settles O43: of family 46 only PARSE is left, which ends in NoContext or as an unpack does. -/
theorem onlyGeneratorsCallCollaborators : Obligations.OnlyGeneratorsCallCollaborators := by
  intro i s t h hcall
  obtain ⟨-, hend⟩ | ⟨hport, -, -⟩ | ⟨-, -, hend⟩ := exec_cases h
  · exact hend.callsNobody
  · obtain ⟨frame, rfl⟩ := eq_parse_of_isPort hport hcall
    obtain ⟨_, he, ⟨-, rfl⟩ | hend⟩ := exec_parse frame s
    · cases he.symm.trans h
      exact ⟨rfl, _, rfl⟩
    · cases he.symm.trans h
      exact hend.callsNobody
  · exact hend.callsNobody

/-! ### GEN20 and the keys (R34) -/

/-- The state with other keys in V20_KEYS, or with none. -/
def State.withKeys (k : Option Key) (s : State) : State := { s with ctx := { s.ctx with v20Keys := k } }

/-- What the operation just ended with, the trace left out. -/
def State.ended (s : State) : Option Ended := s.report.map (·.ended)

@[simp] theorem State.finish_ended (s : State) (out : Output) (trace : List Event) :
    (s.finish out trace).ended = some (.ok out) := rfl

@[simp] theorem State.refuse_ended (s : State) (r : Reason) : (s.refuse r).ended = some (.refused r) := rfl

@[simp] theorem State.raiseError_ended (s : State) (e : Error) (trace : List Event) :
    (s.raiseError e trace).ended = some (.err e) := rfl

@[simp] theorem State.withKeys_cfg (k : Option Key) (s : State) : (s.withKeys k).cfg = s.cfg := rfl
@[simp] theorem State.withKeys_live (k : Option Key) (s : State) : (s.withKeys k).ctx.live = s.ctx.live := rfl
@[simp] theorem State.withKeys_v20State (k : Option Key) (s : State) :
    (s.withKeys k).ctx.v20State = s.ctx.v20State := rfl
@[simp] theorem State.withKeys_v20Sid (k : Option Key) (s : State) : (s.withKeys k).ctx.v20Sid = s.ctx.v20Sid := rfl
@[simp] theorem State.withKeys_v20Seq (k : Option Key) (s : State) : (s.withKeys k).ctx.v20Seq = s.ctx.v20Seq := rfl
@[simp] theorem State.withKeys_encAnswer (k : Option Key) (s : State) : (s.withKeys k).encAnswer = s.encAnswer := rfl

/-- How TRLGEN's answer is taken depends neither on the state nor on the trace so far. -/
theorem State.gen20WithTrailer_ended (hb p : Bytes) (a : Answer Trl) (trace trace' : List Event) (s s' : State) :
    (s.gen20WithTrailer hb p a trace).ended = (s'.gen20WithTrailer hb p a trace').ended := by
  cases a with
  | fail => rfl
  | ok t => cases h : trailerAccepted t hb p <;> simp [State.gen20WithTrailer, h]

/-- What GEN20 ends with over a wire payload depends on no register and not on the trace so far. -/
theorem State.gen20Sealed_ended (active : Bool) (pt : UInt6) (oem : Option Oem) (sid seq : U32) (p : Bytes)
    (trace trace' : List Event) {s s' : State} (h : s.trlgenAnswer = s'.trlgenAnswer) :
    (s.gen20Sealed active pt oem sid seq p trace).ended = (s'.gen20Sealed active pt oem sid seq p trace').ended := by
  unfold State.gen20Sealed
  by_cases hlong : p.length > LengthLimit.limit65535.value
  · simp [hlong]
  · cases htrl : trailerExpected (gen20Header active pt oem sid seq p)
    · simp [hlong, htrl]
    · simpa [hlong, htrl, h] using State.gen20WithTrailer_ended ..

theorem State.gen20Active_withKeys_ended (raw : Bytes) (pt : UInt6) (oem : Option Oem) (k : Option Key) (s : State) :
    ((s.withKeys k).gen20Active raw pt oem).ended = (s.gen20Active raw pt oem).ended := by
  unfold State.gen20Active
  cases hsid : s.ctx.v20Sid with
  | none => simp [hsid]
  | some sid =>
    cases hseq : s.ctx.v20Seq with
    | none => simp [hsid, hseq]
    | some seq =>
      cases henc : s.encAnswer with
      | fail => simp [hsid, hseq, henc, State.gen20WithPayload]
      | ok p =>
        simp only [State.withKeys_v20Sid, State.withKeys_v20Seq, State.withKeys_encAnswer, hsid, hseq, henc,
          State.gen20WithPayload]
        exact State.gen20Sealed_ended _ _ _ _ _ _ _ _ rfl

theorem State.gen20_withKeys_ended (raw : Bytes) (pt : UInt6) (oem : Option Oem) (k : Option Key) (s : State) :
    ((s.withKeys k).gen20 raw pt oem).ended = (s.gen20 raw pt oem).ended := by
  unfold State.gen20
  cases hshape : oemShape s.cfg pt oem with
  | some name => simp [hshape]
  | none =>
    cases hlive : s.ctx.live with
    | false => simp [hshape, State.needCtx, hlive]
    | true =>
      by_cases hactive : s.ctx.v20State = .active
      · simpa [hshape, State.needCtx, hlive, hactive] using State.gen20Active_withKeys_ended raw pt oem k s
      · simp only [State.withKeys_cfg, State.withKeys_live, State.withKeys_v20State, hshape, State.needCtx, hlive,
          hactive, if_true, if_false]
        exact State.gen20Sealed_ended _ _ _ _ _ _ _ _ rfl

/-- Settles O40: the keys reach the trace alone, and no check of GEN20 reads them there. That ENC's answer does not change
with its arguments is the model's choice (log entry 2). -/
theorem keysNeverInspected : Obligations.KeysNeverInspected := fun raw pt oem k s =>
  State.gen20_withKeys_ended raw pt oem k s

end Sys2Proof.Machine
end

section
/-! SUPPORT. The decoder against the encoder (30_encoding.md R70 to R75, R90 to R93): each operand reader inverts the
spelling of its values and answers nothing else but OperandRange, the bytes of a wire row read back, and from these the
statements about requests and the wire rows. -/

namespace Sys2Proof.Machine

open Laws.AssignedRequest (assigned)

/-! ### A reader gives back the value its operand spells (R90) -/

@[simp] theorem asField_toNat {w : Nat} (name : OperandName) (v : BitVec w) : asField w name v.toNat = .ok v := by
  simp [asField, v.isLt]

@[simp] theorem asBool_boolCode (name : OperandName) (b : Bool) : asBool name (boolCode b) = .ok b := by cases b <;> rfl

@[simp] theorem asProto_protoCode (p : Proto) : asProto (protoCode p) = .ok p := by cases p <;> rfl

@[simp] theorem asState_stateCode (q : V20State) : asState (stateCode q) = .ok q := by cases q <;> rfl

theorem asPadCount_of_le {n : Nat} (h : n ≤ 3) : asPadCount n = .ok n := if_pos h

@[simp] theorem asH15_rawH15 (h : H15) : asH15 (rawH15 h) = .ok h := by
  simp [asH15, rawH15, bind, Except.bind]

@[simp] theorem asOem_rawOem (o : Option Oem) : asOem (rawOem o) = .ok o := by
  cases o <;> simp [asOem, rawOem, bind, Except.bind]

@[simp] theorem asH20_rawH20 (h : H20) : asH20 (rawH20 h) = .ok h := by
  simp [asH20, rawH20, bind, Except.bind]

@[simp] theorem asTrl_rawTrl (t : Trl) : asTrl (rawTrl t) = .ok t := by
  simp [asTrl, rawTrl, bind, Except.bind]

@[simp] theorem asTrailer_map_rawTrl (t : Option Trl) : asTrailer (t.map rawTrl) = .ok t := by
  cases t <;> simp [asTrailer, Except.map]

@[simp] theorem asS15_rawS15 (f : S15) : asS15 (rawS15 f) = .ok f := by
  simp [asS15, rawS15, bind, Except.bind]

@[simp] theorem asS20_rawS20 (f : S20) : asS20 (rawS20 f) = .ok f := by
  simp [asS20, rawS20, bind, Except.bind]

/-! ### A reader answers a value spelt by its operand, or OperandRange (R272) -/

/-- The reading gives a value with `P`, or is refused OperandRange. -/
def Answers {α : Type} (P : α → Prop) : Except Reject α → Prop
  | .ok a => P a
  | .error x => ∃ name, x = .refuse (.operandRange name)

@[simp] theorem answers_ok_iff {α : Type} {P : α → Prop} (a : α) : Answers P (.ok a) ↔ P a := Iff.rfl

@[simp] theorem answers_operandRange {α : Type} (P : α → Prop) (name : OperandName) :
    Answers P (.error (.refuse (.operandRange name))) := ⟨name, rfl⟩

@[simp] theorem answers_wrongOperands (P : Instr → Prop) : Answers P wrongOperands := ⟨.operands, rfl⟩

theorem Answers.map {α β : Type} {P : α → Prop} {Q : β → Prop} {x : Except Reject α} {f : α → β} (h : Answers P x)
    (hf : ∀ a, P a → Q (f a)) : Answers Q (x.map f) := by
  cases x with
  | ok a => exact hf a h
  | error e => exact h

theorem Answers.bind {α β : Type} {P : α → Prop} {Q : β → Prop} {x : Except Reject α} {f : α → Except Reject β}
    (h : Answers P x) (hf : ∀ a, P a → Answers Q (f a)) : Answers Q (x >>= f) := by
  cases x with
  | ok a => exact hf a h
  | error e => exact h

theorem asField_answers (w : Nat) (name : OperandName) (n : Nat) :
    Answers (fun v : BitVec w => v.toNat = n) (asField w name n) := by
  unfold asField
  split
  · next h => exact Nat.mod_eq_of_lt h
  · exact ⟨name, rfl⟩

theorem asBool_answers (name : OperandName) (n : Nat) : Answers (fun b => boolCode b = n) (asBool name n) := by
  unfold asBool; split <;> simp [boolCode]

theorem asProto_answers (n : Nat) : Answers (fun p => protoCode p = n) (asProto n) := by
  unfold asProto; split <;> simp [protoCode]

theorem asState_answers (n : Nat) : Answers (fun q => stateCode q = n) (asState n) := by
  unfold asState; split <;> simp [stateCode]

theorem asPadCount_answers (n : Nat) : Answers (fun p => p = n ∧ p ≤ 3) (asPadCount n) := by
  unfold asPadCount
  split
  · next h => exact ⟨rfl, h⟩
  · exact ⟨.p, rfl⟩

theorem asH15_answers (r : RawH15) : Answers (fun h => rawH15 h = r) (asH15 r) := by
  refine (asField_answers ..).bind fun authType hAuthType => ?_
  refine (asField_answers ..).bind fun seq hSeq => ?_
  refine (asField_answers ..).bind fun sid hSid => ?_
  refine (asField_answers ..).bind fun len hLen => ?_
  simp [rawH15, hAuthType, hSeq, hSid, hLen]

theorem asOem_answers (r : Option RawOem) : Answers (fun o => rawOem o = r) (asOem r) := by
  cases r with
  | none => rfl
  | some r =>
    refine (asField_answers ..).bind fun iana hIana => ?_
    refine (asField_answers ..).bind fun pid hPid => ?_
    simp [rawOem, hIana, hPid]

theorem asH20_answers (r : RawH20) : Answers (fun h => rawH20 h = r) (asH20 r) := by
  refine (asField_answers ..).bind fun authType hAuthType => ?_
  refine (asBool_answers ..).bind fun enc hEnc => ?_
  refine (asBool_answers ..).bind fun auth hAuth => ?_
  refine (asField_answers ..).bind fun pt hPt => ?_
  refine (asOem_answers ..).bind fun oem hOem => ?_
  refine (asField_answers ..).bind fun sid hSid => ?_
  refine (asField_answers ..).bind fun seq hSeq => ?_
  refine (asField_answers ..).bind fun len hLen => ?_
  simp [rawH20, hAuthType, hEnc, hAuth, hPt, hOem, hSid, hSeq, hLen]

theorem asTrl_answers (r : RawTrl) : Answers (fun t => rawTrl t = r) (asTrl r) := by
  refine (asField_answers ..).bind fun padLen hPadLen => ?_
  refine (asField_answers ..).bind fun nextHeader hNext => ?_
  simp [rawTrl, hPadLen, hNext]

theorem asTrailer_answers (r : Option RawTrl) : Answers (fun t => t.map rawTrl = r) (asTrailer r) := by
  cases r with
  | none => rfl
  | some r => exact (asTrl_answers r).map fun t ht => congrArg some ht

theorem asS15_answers (r : RawS15) : Answers (fun f => rawS15 f = r) (asS15 r) := by
  refine (asH15_answers ..).bind fun hdr hHdr => ?_
  simp [rawS15, hHdr]

theorem asS20_answers (r : RawS20) : Answers (fun f => rawS20 f = r) (asS20 r) := by
  refine (asH20_answers ..).bind fun hdr hHdr => ?_
  refine (asTrailer_answers ..).bind fun trailer hTrailer => ?_
  simp [rawS20, hHdr, hTrailer]

/-! ### The opcode map (R91, R92) -/

/-- R92 lists the tags that R91 leaves unassigned. -/
theorem reserved_iff (tag : Byte) : assigned tag.toNat = false ↔
    tag.toNat = 0x00 ∨ (0x0A ≤ tag.toNat ∧ tag.toNat ≤ 0x0F) ∨ (0x17 ≤ tag.toNat ∧ tag.toNat ≤ 0x1F) ∨
    (0x24 ≤ tag.toNat ∧ tag.toNat ≤ 0x2F) ∨ (0x3B ≤ tag.toNat ∧ tag.toNat ≤ 0x3F) ∨ 0x44 ≤ tag.toNat := by
  simp [assigned]; omega

theorem decodeOp_of_not_assigned {tag : Byte} (h : assigned tag.toNat = false) (ops : List Operand) :
    decodeOp tag ops = .error (.refuse (.reservedOp tag)) := by
  unfold decodeOp
  generalize tag.toNat = n at h ⊢
  split
  case h_36 => rfl
  all_goals exact absurd h (by decide)

/-- `i` is well-formed, and its request is the tag `n` with these operands. -/
def SpeltBy (cfg : Config) (n : Nat) (ops : List Operand) (i : Instr) : Prop :=
  i.wf cfg = true ∧ encode cfg i = .op (BitVec.ofNat 8 n) ops

/-- An assigned tag is answered with an instruction the request spells, or with OperandRange. The cases are the arms of
the opcode map in its order. -/
theorem decodeOp_answers (cfg : Config) {tag : Byte} (h : assigned tag.toNat = true) (ops : List Operand) :
    Answers (SpeltBy cfg tag.toNat ops) (decodeOp tag ops) := by
  unfold decodeOp decPutU8 decPutU16le decPutU32le decPutBytes decGetU8 decGetU16le decGetU32le decGetBytes
    decGetBytesUpto decH15Pack decH15Unpack decH20Pack decH20Unpack decPadSize decTrlPack decTrlUnpack decS15Pack
    decS15Unpack decS20Pack decS20Unpack decCtxCreate decCtxDestroy decCtxRead decCtxSetV15 decCtxSetV15Sid
    decCtxSetV15Seq decCtxSetV20Sid decCtxSetV20Seq decCtxSetV20Keys decSmAdvance decSmReset decGen15 decGen20
    decBuild decParse
  generalize tag.toNat = n at h ⊢
  split
  -- Past the last arm the tag is not assigned.
  case h_36 => grind [assigned]
  all_goals
    split
    case h_2 => exact answers_wrongOperands _
  -- Family 40: three PUTs of an integer; PUT_BYTES and the GETs, whose operands have no type to check.
  iterate 3 exact (asField_answers ..).map (by rintro _ rfl; exact ⟨rfl, rfl⟩)
  iterate 6 exact ⟨rfl, rfl⟩
  -- Families 41 and 42: a PACK of a record, an UNPACK of bytes.
  · exact (asH15_answers _).map (by rintro _ rfl; exact ⟨rfl, rfl⟩)
  · exact ⟨rfl, rfl⟩
  · exact (asH20_answers _).map (by rintro _ rfl; exact ⟨rfl, rfl⟩)
  · exact ⟨rfl, rfl⟩
  -- Family 43: PAD_SIZE, TRL_PACK, and TRL_UNPACK with its pad count.
  · exact ⟨rfl, rfl⟩
  · exact (asTrl_answers _).map (by rintro _ rfl; exact ⟨rfl, rfl⟩)
  · exact (asPadCount_answers _).map (by rintro _ ⟨rfl, hp⟩; exact ⟨decide_eq_true hp, rfl⟩)
  -- Family 44.
  · exact (asS15_answers _).map (by rintro _ rfl; exact ⟨rfl, rfl⟩)
  · exact ⟨rfl, rfl⟩
  · exact (asS20_answers _).map (by rintro _ rfl; exact ⟨rfl, rfl⟩)
  · exact ⟨rfl, rfl⟩
  -- Family 45: CTX_CREATE, CTX_DESTROY and CTX_READ, the register writes, the state machine.
  · exact (asProto_answers _).map (by rintro _ rfl; exact ⟨rfl, rfl⟩)
  iterate 2 exact ⟨rfl, rfl⟩
  · refine (asBool_answers ..).bind fun _ hActive => (asField_answers ..).bind fun _ hAuthType => ?_
    subst hActive hAuthType
    exact ⟨rfl, rfl⟩
  iterate 4 exact (asField_answers ..).map (by rintro _ rfl; exact ⟨rfl, rfl⟩)
  · exact ⟨rfl, rfl⟩
  · exact (asState_answers _).map (by rintro _ rfl; exact ⟨rfl, rfl⟩)
  · exact ⟨rfl, rfl⟩
  -- Family 46: GEN15, then GEN20 and BUILD, which take a payload type and an OEM record, and PARSE.
  · exact ⟨rfl, rfl⟩
  iterate 2
    refine (asField_answers ..).bind fun _ hPt => (asOem_answers _).bind fun _ hOem => ?_
    subst hPt hOem
    exact ⟨rfl, rfl⟩
  · exact ⟨rfl, rfl⟩

theorem decodeOp_spelt (cfg : Config) {tag : Byte} {ops : List Operand} {i : Instr} (hd : decodeOp tag ops = .ok i) :
    i.wf cfg = true ∧ encode cfg i = .op tag ops := by
  cases ha : assigned tag.toNat with
  | false => rw [decodeOp_of_not_assigned ha] at hd; cases hd
  | true =>
    have h := decodeOp_answers cfg ha ops
    rw [hd] at h
    simpa [Answers, SpeltBy] using h

/-! ### The bytes of a wire row, read back (R70 to R75) -/

theorem readHeader15_of_header15Bytes {h : H15} (hv : ValidH15 h) :
    readHeader15 (header15Bytes h) = .ok (h, hsize15 h) := by
  simpa using readHeader15_header15Bytes hv []

theorem readHeader20_of_header20Bytes {cfg : Config} {h : H20} (hv : h.oem.isSome ↔ h.pt = cfg.ptOem) :
    readHeader20 cfg (header20Bytes h) = .ok (h, hsize20 cfg h) := by
  simpa using readHeader20_header20Bytes hv []

theorem readTrailer_of_trailerBytes {t : Trl} (h : t.authCode.length ≤ 16) :
    readTrailer (trailerBytes t) 0 t.pad.length = .ok (t, tsize t) := by
  simpa using readTrailer_trailerBytes t [] h

theorem w15nHeader_valid (seq sid : U32) (len : Byte) : ValidH15 (w15nHeader seq sid len) :=
  ⟨iff_of_true rfl rfl, nofun⟩

theorem w15aHeader_valid {authType : Byte} {code : Bytes} (h0 : authType ≠ 0x00#8) (hc : code.length = 16)
    (seq sid : U32) (len : Byte) : ValidH15 (w15aHeader authType seq sid code len) :=
  ⟨iff_of_false nofun h0, by rintro _ ⟨⟩; exact hc⟩

theorem w20Header_oemPresence {cfg : Config} {pt : UInt6} (hp : pt ≠ cfg.ptOem) (authType : Byte) (enc auth : Bool)
    (sid seq : U32) (len : U16) :
    (w20Header authType enc auth pt sid seq len).oem.isSome ↔
      (w20Header authType enc auth pt sid seq len).pt = cfg.ptOem :=
  iff_of_false nofun hp

theorem w20oHeader_oemPresence (cfg : Config) (authType : Byte) (enc auth : Bool) (iana : U32) (pid : U16)
    (sid seq : U32) (len : U16) :
    (w20oHeader cfg authType enc auth iana pid sid seq len).oem.isSome ↔
      (w20oHeader cfg authType enc auth iana pid sid seq len).pt = cfg.ptOem :=
  iff_of_true rfl rfl

theorem decode_header15Bytes (cfg : Config) {h : H15} (hv : ValidH15 h) :
    decode cfg (.header15 (header15Bytes h)) = .ok (wire15Of h) := by
  rw [decode, readHeader15_of_header15Bytes hv]; rfl

theorem decode_header20Bytes {cfg : Config} {h : H20} (hv : h.oem.isSome ↔ h.pt = cfg.ptOem) :
    decode cfg (.header20 (header20Bytes h)) = .ok (wire20Of h) := by
  rw [decode, readHeader20_of_header20Bytes hv]; rfl

theorem decode_trailerBytes (cfg : Config) {t : Trl} (hp : t.pad.length ≤ 3) (hc : t.authCode.length ≤ 16) :
    decode cfg (.trailer t.pad.length (trailerBytes t)) = .ok (wireTrlOf t) := by
  rw [decode, asPadCount_of_le hp]
  simp only [bind, Except.bind]
  rw [readTrailer_of_trailerBytes hc]
  rfl

/-! ### What a wire request is read as is a well-formed row (R71, R74, R75) -/

theorem wire15Of_wf (cfg : Config) {h : H15} (hv : ValidH15 h) : (wire15Of h).wf cfg = true := by
  obtain ⟨hnone, hlen⟩ := hv
  unfold wire15Of
  split
  · rfl
  · next code hc =>
    have h0 : h.authType ≠ 0x00#8 := fun h0 => by simp [hnone.2 h0] at hc
    simp [Instr.wf, h0, hlen code hc]

theorem wire20Of_wf {cfg : Config} {h : H20} (hv : h.oem.isSome ↔ h.pt = cfg.ptOem) : (wire20Of h).wf cfg = true := by
  unfold wire20Of
  split
  · next hc => simpa [hc, Instr.wf] using hv
  · rfl

theorem wireTrlOf_wf (cfg : Config) {t : Trl} (hp : t.pad.length ≤ 3) (hc : t.authCode.length ≤ 16) :
    (wireTrlOf t).wf cfg = true := by
  simp [wireTrlOf, Instr.wf, hp, hc]

theorem decode_wf {cfg : Config} {r : Request} {i : Instr} (hd : decode cfg r = .ok i) : i.wf cfg = true := by
  cases r with
  | op tag ops => exact (decodeOp_spelt cfg hd).1
  | header15 buf =>
    cases hr : readHeader15 buf with
    | error e => rw [decode, hr] at hd; cases hd
    | ok r =>
      rw [decode, hr] at hd
      cases hd
      exact wire15Of_wf cfg (readHeader15_ok_cases hr).1
  | header20 buf =>
    cases hr : readHeader20 cfg buf with
    | error e => rw [decode, hr] at hd; cases hd
    | ok r =>
      rw [decode, hr] at hd
      cases hd
      exact wire20Of_wf (readHeader20_ok_cases hr).1
  | trailer p buf =>
    by_cases hp : p ≤ 3
    · rw [decode, asPadCount_of_le hp] at hd
      cases hr : readTrailer buf 0 p with
      | error e => simp only [bind, Except.bind, hr] at hd; cases hd
      | ok r =>
        simp only [bind, Except.bind, hr] at hd
        cases hd
        obtain ⟨hpad, hcode⟩ := readTrailer_ok_cases hr
        exact wireTrlOf_wf cfg (hpad ▸ hp) hcode
    · rw [decode, asPadCount, if_neg hp] at hd; cases hd

/-! ### A wire row reports the value its bytes read back as (R70 to R75) -/

/-- An instruction that settles with the reading of a v1.5 header's bytes reports that header and its size. -/
theorem reportsOk_of_header15Bytes {i : Instr} {s : State} {h : H15} {n : Nat}
    (he : exec i s = .next (s.settle ((readHeader15 (header15Bytes h)).map fun r => .h15 r.1 r.2))) (hv : ValidH15 h)
    (hn : hsize15 h = n) : ReportsOk i s (.h15 h n) := by
  rw [ReportsOk, he, readHeader15_of_header15Bytes hv, hn]; rfl

/-- An instruction that settles with the reading of a v2.0 header's bytes reports that header and its size. -/
theorem reportsOk_of_header20Bytes {i : Instr} {s : State} {h : H20} {n : Nat}
    (he : exec i s = .next (s.settle ((readHeader20 s.cfg (header20Bytes h)).map fun r => .h20 r.1 r.2)))
    (hv : h.oem.isSome ↔ h.pt = s.cfg.ptOem) (hn : hsize20 s.cfg h = n) : ReportsOk i s (.h20 h n) := by
  rw [ReportsOk, he, readHeader20_of_header20Bytes hv, hn]; rfl

theorem exec_wireWtrl {pad : Bytes} (hp : pad.length ≤ 3) (padLen nextHeader : Byte) (code : Bytes) (s : State) :
    exec (.wireWtrl pad padLen nextHeader code) s = .next (s.settle
      ((readTrailer (trailerBytes (wtrlTrailer pad padLen nextHeader code)) 0 pad.length).map fun r => .trl r.1 r.2)) :=
  if_pos hp

/-! ### The statements -/

/-- Settles O50: by cases on the instruction. An operation's request is read operand by operand, each reader giving back
the value its operand spells; a wire row's bytes read back as the value they were made of. What a request is made of is
the model's choice (log entries 7 and 10). -/
theorem decodeOfEncode : Obligations.DecodeOfEncode := by
  intro cfg i hwf
  cases i with
  | putBytes | getU8 | getU16le | getU32le | getBytes | getBytesUpto | h15Unpack | h20Unpack | padSize | s15Unpack
  | s20Unpack | ctxDestroy | ctxRead | ctxSetV20Keys | smReset | gen15 | parse => rfl
  | putU8 | putU16le | putU32le | ctxSetV15Sid | ctxSetV15Seq | ctxSetV20Sid | ctxSetV20Seq =>
    exact congrArg (Except.map _) (asField_toNat ..)
  | trlUnpack buf off p => exact congrArg (Except.map _) (asPadCount_of_le (of_decide_eq_true hwf))
  | h15Pack h => exact congrArg (Except.map _) (asH15_rawH15 h)
  | h20Pack h => exact congrArg (Except.map _) (asH20_rawH20 h)
  | trlPack t => exact congrArg (Except.map _) (asTrl_rawTrl t)
  | s15Pack f => exact congrArg (Except.map _) (asS15_rawS15 f)
  | s20Pack f => exact congrArg (Except.map _) (asS20_rawS20 f)
  | ctxCreate proto => exact congrArg (Except.map _) (asProto_protoCode proto)
  | smAdvance target => exact congrArg (Except.map _) (asState_stateCode target)
  | ctxSetV15 active authType => simp [encode, decode, decodeOp, decCtxSetV15, bind, Except.bind]
  | gen20 raw pt oem => simp [encode, decode, decodeOp, decGen20, bind, Except.bind]
  | build raw pt oem => simp [encode, decode, decodeOp, decBuild, bind, Except.bind]
  | wireW15n seq sid len => exact decode_header15Bytes cfg (w15nHeader_valid seq sid len)
  | wireW15a authType seq sid code len =>
    obtain ⟨h0, hc⟩ : authType ≠ 0x00#8 ∧ code.length = 16 := by simpa [Instr.wf] using hwf
    exact decode_header15Bytes cfg (w15aHeader_valid h0 hc seq sid len)
  | wireW20 authType enc auth pt sid seq len =>
    exact decode_header20Bytes (w20Header_oemPresence (of_decide_eq_true hwf) authType enc auth sid seq len)
  | wireW20o authType enc auth iana pid sid seq len =>
    exact decode_header20Bytes (w20oHeader_oemPresence cfg authType enc auth iana pid sid seq len)
  | wireWtrl pad padLen nextHeader code =>
    obtain ⟨hp, hc⟩ : pad.length ≤ 3 ∧ code.length ≤ 16 := by simpa [Instr.wf] using hwf
    exact decode_trailerBytes cfg (t := wtrlTrailer pad padLen nextHeader code) hp hc

/-- Settles O48: the opcode map has an arm for the assigned tags alone, and no arm answers ReservedOp. -/
theorem reservedTagsRefused : Obligations.ReservedTagsRefused := by
  intro tag ops cfg
  rw [← reserved_iff]
  refine ⟨fun hd => ?_, fun ha => decodeOp_of_not_assigned ha ops⟩
  by_contra ha
  have h := decodeOp_answers cfg (Bool.eq_true_of_not_eq_false ha) ops
  rw [show decodeOp tag ops = _ from hd] at h
  obtain ⟨name, hname⟩ := h
  cases hname

/-- Settles O51: an arm of the opcode map gives an instruction its request spells, and a reading of a wire format gives a
value its rows admit. What a request is made of is the model's choice (log entry 10). -/
theorem encodeOfDecode : Obligations.EncodeOfDecode := by
  intro cfg r i hd
  refine ⟨decode_wf hd, ?_⟩
  rintro tag ops rfl
  exact (decodeOp_spelt cfg hd).2

/-- Settles O59: the bytes of a row are those of its header value, which the reading of its format gives back. That a
row reads its own bytes is the model's choice (log entry 7). -/
theorem wireHeaderRowsReadTheirFields : Obligations.WireHeaderRowsReadTheirFields := by
  intro authType enc auth pt iana sid seq pid len code len8 s
  refine ⟨?_, fun h0 hc => ?_, fun hp => ?_, ?_⟩
  · exact reportsOk_of_header15Bytes rfl (w15nHeader_valid seq sid len8) (if_pos rfl)
  · exact reportsOk_of_header15Bytes rfl (w15aHeader_valid h0 hc seq sid len8) (if_neg h0)
  · exact reportsOk_of_header20Bytes rfl (w20Header_oemPresence hp authType enc auth sid seq len) (if_neg hp)
  · exact reportsOk_of_header20Bytes rfl (w20oHeader_oemPresence s.cfg authType enc auth iana pid sid seq len)
      (if_pos rfl)

/-- Settles O60: a trailer's bytes, read with its own pad count, give the trailer back (log entry 7). -/
theorem wireTrailerRowReadsItsFields : Obligations.WireTrailerRowReadsItsFields := by
  intro pad padLen nextHeader code s hp hc
  have hread : readTrailer (trailerBytes (wtrlTrailer pad padLen nextHeader code)) 0 pad.length =
      .ok (wtrlTrailer pad padLen nextHeader code, pad.length + 2 + code.length) := readTrailer_of_trailerBytes hc
  rw [ReportsOk, exec_wireWtrl hp, hread]
  rfl

/-- Settles O52: each request is the encoder's for its operation (log entries 7 and 10). -/
theorem decodesProgramRequests : Obligations.DecodesProgramRequests :=
  ⟨decodeOfEncode .default (.ctxCreate .v20) rfl, decodeOfEncode .default (.smAdvance .active) rfl,
   decodeOfEncode .default (.ctxSetV15 true 0x02#8) rfl, decodeOfEncode .default (.ctxSetV20Sid 0x11223344#32) rfl,
   decodeOfEncode .default (.build [0x99#8] 0#6 none) rfl, decodeOfEncode .default (.padSize 13) rfl,
   decodeOfEncode .default (.wireW15n 0x04030201#32 0x08070605#32 0x10#8) rfl⟩

end Sys2Proof.Machine
end

section
/-! SUPPORT. Family 40 (40_codec.md R100 to R111): a write cut into single bytes set, a field read as shifts and ors,
the reading of a field just written, and from these the statements about the codec. -/

namespace Sys2Proof.Machine

/-! ### Writes, byte by byte (R101 to R103) -/

/-- A write's first byte is set alone and the rest written after it; where the range does not fit, neither fits. -/
theorem memWrite_cons (tag : Tag) (buf : Bytes) (off : Nat) (b : Byte) (bs : Bytes) :
    memWrite tag buf off (b :: bs) = memWrite tag (buf.set off b) (off + 1) bs := by
  by_cases h : off + (bs.length + 1) ≤ buf.length
  · rw [memWrite_eq_ok (v := b :: bs) h, splice_cons (by omega), memWrite_eq_ok (by rw [List.length_set]; omega)]
  · rw [memWrite_eq_error (v := b :: bs) (Nat.not_le.1 h), memWrite_eq_error (by rw [List.length_set]; omega)]

theorem memWrite_nil {tag : Tag} {buf : Bytes} {off : Nat} (h : off ≤ buf.length) :
    memWrite tag buf off [] = .ok buf := by
  rw [memWrite_eq_ok (by simpa using h), splice_nil]

theorem writeU8_eq_ok {tag : Tag} {buf : Bytes} {off : Nat} {v : Byte} (h : off + 1 ≤ buf.length) :
    writeU8 tag buf off v = .ok (buf.set off v) := by
  rw [writeU8, memWrite_cons, memWrite_nil (by simpa using h)]

theorem writeU16_eq_ok {tag : Tag} {buf : Bytes} {off : Nat} {v : U16} (h : off + 2 ≤ buf.length) :
    writeU16 tag buf off v = .ok ((buf.set off (BitVec.ofNat 8 v.toNat)).set (off + 1)
      (BitVec.ofNat 8 (v.toNat / 2 ^ 8))) := by
  rw [writeU16, le16_eq_bytesOfNat]
  simp only [bytesOfNat, memWrite_cons]
  exact memWrite_nil (by simp; omega)

theorem writeU32_eq_ok {tag : Tag} {buf : Bytes} {off : Nat} {v : U32} (h : off + 4 ≤ buf.length) :
    writeU32 tag buf off v = .ok ((((buf.set off (BitVec.ofNat 8 v.toNat)).set (off + 1)
      (BitVec.ofNat 8 (v.toNat / 2 ^ 8))).set (off + 2) (BitVec.ofNat 8 (v.toNat / 2 ^ 16))).set (off + 3)
      (BitVec.ofNat 8 (v.toNat / 2 ^ 24))) := by
  rw [writeU32, le32_eq_bytesOfNat]
  simp only [bytesOfNat, memWrite_cons, Nat.div_div_eq_div_mul]
  exact memWrite_nil (by simp; omega)

/-! ### Reads (R105 to R109) -/

/-- Byte `j` of a range that starts at `off` is byte `off + j` of the buffer. -/
theorem getElem?_take_drop {buf : Bytes} {off n j : Nat} (h : j < n) : ((buf.drop off).take n)[j]? = buf[off + j]? := by
  rw [List.getElem?_take_of_lt h, List.getElem?_drop]

/-- A byte below a word is an or with the word shifted past it. -/
theorem setWidth_append_byte {w n : Nat} (x : BitVec w) (b : Byte) :
    (x ++ b).setWidth n = b.setWidth n ||| x.setWidth n <<< 8 := by
  apply BitVec.eq_of_getLsbD_eq
  intro i hi
  by_cases hlow : i < 8
  · simp [BitVec.getLsbD_append, hlow]
  · have hb : b.getLsbD i = false := BitVec.getLsbD_of_ge b i (Nat.not_lt.1 hlow)
    simp [BitVec.getLsbD_append, hlow, hb, hi]

/-- A 16-bit field in the spelling of R106. -/
theorem u16At_eq_or (buf : Bytes) (off : Nat) :
    u16At buf off = ((buf.getD off 0#8).setWidth 16 ||| (buf.getD (off + 1) 0#8).setWidth 16 <<< 8) := by
  rw [← BitVec.setWidth_eq (u16At buf off), u16At, setWidth_append_byte]

/-- A 32-bit field in the spelling of R107. -/
theorem u32At_eq_or (buf : Bytes) (off : Nat) :
    u32At buf off = ((buf.getD off 0#8).setWidth 32 ||| (buf.getD (off + 1) 0#8).setWidth 32 <<< 8 |||
      (buf.getD (off + 2) 0#8).setWidth 32 <<< 16 ||| (buf.getD (off + 3) 0#8).setWidth 32 <<< 24) := by
  rw [← BitVec.setWidth_eq (u32At buf off), u32At]
  simp only [setWidth_append_byte, BitVec.shiftLeft_or_distrib, ← BitVec.shiftLeft_add, ← BitVec.or_assoc]

/-- Whatever a read makes of its bytes, it fails where they do not fit. -/
theorem map_memRead_eq_error {α : Type} {tag : Tag} {buf : Bytes} {off n : Nat} (f : Bytes → α)
    (h : ¬ off + n ≤ buf.length) : (memRead tag buf off n).map f = .error (.bufferTooShort tag) := by
  rw [memRead_eq_error (Nat.not_le.1 h)]; rfl

/-! ### A field just written, read back (R111) -/

theorem readU8_of_writeU8 {tag tag' : Tag} {buf out : Bytes} {off : Nat} {v : Byte}
    (h : writeU8 tag buf off v = .ok out) : readU8 tag' out off = .ok v :=
  (congrArg (Except.map _) (memRead_of_memWrite h)).trans (congrArg Except.ok (ofNat_unle_singleton v))

theorem readU16_of_writeU16 {tag tag' : Tag} {buf out : Bytes} {off : Nat} {v : U16}
    (h : writeU16 tag buf off v = .ok out) : readU16 tag' out off = .ok v :=
  (congrArg (Except.map _) (memRead_of_memWrite h)).trans (congrArg Except.ok (ofNat_unle_le16 v))

theorem readU32_of_writeU32 {tag tag' : Tag} {buf out : Bytes} {off : Nat} {v : U32}
    (h : writeU32 tag buf off v = .ok out) : readU32 tag' out off = .ok v :=
  (congrArg (Except.map _) (memRead_of_memWrite h)).trans (congrArg Except.ok (ofNat_unle_le32 v))

/-! ### What a settled access reports -/

section
variable {α : Type} {i : Instr} {s : State} {x : Except Error α} {f : α → Output}

theorem reportsOk_of_settle {a : α} {out : Output} (he : exec i s = .next (s.settle (x.map f))) (hx : x = .ok a)
    (hout : f a = out) : ReportsOk i s out := by
  subst hx hout; exact he

theorem reportsErr_of_settle {e : Error} (he : exec i s = .next (s.settle (x.map f))) (hx : x = .error e) :
    ReportsErr i s e := by
  subst hx; exact he

/-- An access in its two cases: the range fits and the value is reported, or it does not and the error is. -/
theorem reports_of_settle {p : Prop} [Decidable p] {a : α} {out : Output} {e : Error}
    (he : exec i s = .next (s.settle (x.map f))) (hok : p → x = .ok a) (hout : f a = out) (herr : ¬ p → x = .error e) :
    if p then ReportsOk i s out else ReportsErr i s e := by
  split
  · next h => exact reportsOk_of_settle he (hok h) hout
  · next h => exact reportsErr_of_settle he (herr h)

end

/-- A write that fits is reported with its buffer, and so is a read that succeeds on every such buffer. -/
theorem reportsOk_put_get {put : Instr} {get : Bytes → Instr} {s : State} {buf bs : Bytes} {off next : Nat}
    {res : Output} (hput : exec put s = .next (s.settle ((memWrite .codec buf off bs).map fun out => .bufAt out next)))
    (hget : ∀ out, memWrite .codec buf off bs = .ok out → ReportsOk (get out) s res) (h : off + bs.length ≤ buf.length) :
    ∃ out, ReportsOk put s (.bufAt out next) ∧ ReportsOk (get out) s res :=
  ⟨_, reportsOk_of_settle hput (memWrite_eq_ok h) rfl, hget _ (memWrite_eq_ok h)⟩

/-! ### The statements -/

/-- Settles O1: a write is its bytes set one after the other, low byte first. -/
theorem putIntegersLowByteFirst : Obligations.PutIntegersLowByteFirst := fun _ _ _ _ _ _ =>
  ⟨reports_of_settle rfl writeU8_eq_ok rfl fun h => memWrite_eq_error (Nat.not_le.1 h),
   reports_of_settle rfl writeU16_eq_ok rfl fun h => memWrite_eq_error (Nat.not_le.1 h),
   reports_of_settle rfl writeU32_eq_ok rfl fun h => memWrite_eq_error (Nat.not_le.1 h)⟩

/-- Settles O2: a write that fits keeps the length, puts its bytes in its range and keeps every other byte. -/
theorem putBytesCopiesRange : Obligations.PutBytesCopiesRange := by
  intro buf off bs s
  split
  · next h =>
    have hw := memWrite_eq_ok (tag := .codec) h
    exact ⟨_, reportsOk_of_settle rfl hw rfl, memWrite_length hw, memWrite_getElem? hw⟩
  · next h => exact reportsErr_of_settle rfl (memWrite_eq_error (Nat.not_le.1 h))

/-- Settles O3: a read gives the field at its offset, and a field is the shifts and ors of its bytes. -/
theorem getIntegersLowByteFirst : Obligations.GetIntegersLowByteFirst := by
  intro buf off s
  rw [← u16At_eq_or, ← u32At_eq_or]
  exact ⟨reports_of_settle rfl readU8_eq_ok rfl (map_memRead_eq_error _),
    reports_of_settle rfl readU16_eq_ok rfl (map_memRead_eq_error _),
    reports_of_settle rfl readU32_eq_ok rfl (map_memRead_eq_error _)⟩

/-- Settles O4: both reads give the bytes from the offset on, the tolerant one as many as there are. -/
theorem getBytesStrictAndTolerant : Obligations.GetBytesStrictAndTolerant := by
  intro buf off n s
  constructor
  · split
    · next h =>
      exact ⟨_, reportsOk_of_settle rfl (memRead_eq_ok h) rfl, by simp; omega, fun j hj => getElem?_take_drop hj⟩
    · next h => exact reportsErr_of_settle rfl (memRead_eq_error (Nat.not_le.1 h))
  · split
    · next h =>
      have hlen : ((buf.drop off).take n).length = min n (buf.length - off) := by simp
      refine ⟨_, reportsOk_of_settle rfl (readUpto_eq_ok h) (by rw [hlen]), hlen, fun j hj => ?_⟩
      exact getElem?_take_drop (by omega)
    · next h => exact reportsErr_of_settle rfl (readUpto_eq_error (Nat.not_le.1 h))

/-- Settles O5: a write that fits succeeds, and the read of its range gives back what it wrote. -/
theorem codecPutThenGet : Obligations.CodecPutThenGet := fun _ _ _ =>
  ⟨fun v => reportsOk_put_get (bs := [v]) rfl fun _ hw => reportsOk_of_settle rfl (readU8_of_writeU8 hw) rfl,
   fun v => reportsOk_put_get (bs := le16 v) rfl fun _ hw => reportsOk_of_settle rfl (readU16_of_writeU16 hw) rfl,
   fun v => reportsOk_put_get (bs := le32 v) rfl fun _ hw => reportsOk_of_settle rfl (readU32_of_writeU32 hw) rfl,
   fun bs => reportsOk_put_get (bs := bs) rfl fun _ hw => reportsOk_of_settle rfl (memRead_of_memWrite hw) rfl⟩

end Sys2Proof.Machine
end

section
/-! SUPPORT. Family 41 and the headers' round trips (41_header15.md R120 to R123, 42_header20.md R142, R143): what a pack
reports in its two cases, which check of a v1.5 header breaks first, and from these the statements about the headers. -/

namespace Sys2Proof.Machine

/-! ### What a pack reports (R271) -/

section
variable {i : Instr} {s : State} {broken : Option Check} {b : Bytes}

theorem reportsOk_of_packOr (he : exec i s = .next (s.packOr broken b)) (hnone : broken = none) :
    ReportsOk i s (.bytes b) := by
  subst hnone; exact he

theorem refuses_of_packOr {c : Check} (he : exec i s = .next (s.packOr broken b)) (hsome : broken = some c) :
    Refuses i s (.illFormed c) := by
  subst hsome; exact he

end

/-! ### The first broken check of a v1.5 header (R80, R271) -/

/-- The Bool the model computes for `H15.authcode_presence` is the check R80 states. -/
theorem authcodePresence_iff (h : H15) :
    (h.authCode.isNone == (h.authType == authNone)) = true ↔ (h.authCode = none ↔ h.authType = 0x00#8) := by
  rw [beq_iff_eq, Bool.eq_iff_iff, Option.isNone_iff_eq_none, beq_iff_eq, authNone]

theorem checksH15_breaks_presence {h : H15} (hp : ¬ (h.authCode = none ↔ h.authType = 0x00#8)) :
    firstBroken (checksH15 h) = some .h15AuthcodePresence := by
  have hfalse := Bool.eq_false_iff.2 (mt (authcodePresence_iff h).1 hp)
  rw [checksH15, hfalse, firstBroken_cons_false]

theorem checksH15_breaks_len {h : H15} {c : Bytes} (h0 : h.authType ≠ 0x00#8) (hc : h.authCode = some c)
    (hl : c.length ≠ 16) : firstBroken (checksH15 h) = some .h15AuthcodeLen := by
  have htrue := (authcodePresence_iff h).2 (iff_of_false (by simp [hc]) h0)
  have hfalse : (h.authCode.all fun c => c.length == h15AuthCodeLen) = false := by simpa [hc, h15AuthCodeLen] using hl
  rw [checksH15, htrue, hfalse, firstBroken_cons_true, firstBroken_cons_false]

/-- The bytes of a v1.5 header in the spelling of R120. -/
theorem header15Bytes_eq_bytesOfNat (h : H15) :
    header15Bytes h = [h.authType] ++ bytesOfNat 4 h.seq.toNat ++ bytesOfNat 4 h.sid.toNat ++ h.authCode.getD [] ++
      [h.payloadLen] := by
  rw [header15Bytes, le32_eq_bytesOfNat, le32_eq_bytesOfNat]

/-! ### A packed header, unpacked (R122, R123, R142, R143) -/

theorem h15Unpack_header15Bytes {h : H15} (hv : ValidH15 h) (tail : Bytes) (s : State) :
    ReportsOk (.h15Unpack (header15Bytes h ++ tail)) s (.h15 h (header15Bytes h).length) :=
  reportsOk_of_settle rfl (readHeader15_header15Bytes hv tail) (by rw [header15Bytes_length hv])

theorem h20Unpack_header20Bytes {s : State} {h : H20} (hv : h.oem.isSome ↔ h.pt = s.cfg.ptOem) (tail : Bytes) :
    ReportsOk (.h20Unpack (header20Bytes h ++ tail)) s (.h20 h (header20Bytes h).length) :=
  reportsOk_of_settle rfl (readHeader20_header20Bytes hv tail) (by rw [header20Bytes_length hv])

/-! ### The statements -/

/-- Settles O6: the pack answers by its first broken check, and no check breaks iff the header is well-formed. -/
theorem h15PackEmitsLayout : Obligations.H15PackEmitsLayout := by
  intro h s
  rw [← header15Bytes_eq_bytesOfNat]
  exact ⟨fun hv => reportsOk_of_packOr rfl ((checksH15_none_iff h).2 hv),
    fun hp => refuses_of_packOr rfl (checksH15_breaks_presence hp),
    fun _ h0 hc hl => refuses_of_packOr rfl (checksH15_breaks_len h0 hc hl)⟩

/-- Settles O7: by cases on the two size bounds and on byte 0, in the order R121 checks them. -/
theorem h15UnpackReadsLayout : Obligations.H15UnpackReadsLayout := by
  intro buf s
  split
  · next h10 => exact reportsErr_of_settle rfl (readHeader15_short h10)
  · next h10 =>
    split
    · next h0 => exact reportsOk_of_settle rfl (readHeader15_w15n (Nat.not_lt.1 h10) h0) rfl
    · next h0 =>
      split
      · next h26 => exact reportsErr_of_settle rfl (readHeader15_w15a_short h26 h0)
      · next h26 => exact reportsOk_of_settle rfl (readHeader15_w15a (Nat.not_lt.1 h26) h0) rfl

/-- Settles O10: a well-formed header packs to its layout, whose length is its size, and the reading of that layout takes
no byte of what follows. -/
theorem headerRoundTrip : Obligations.HeaderRoundTrip := by
  intro tail s
  refine ⟨fun h hv => ?_, fun h hv => ?_⟩
  · exact ⟨header15Bytes h, reportsOk_of_packOr rfl ((checksH15_none_iff h).2 hv), header15Bytes_length hv,
      h15Unpack_header15Bytes hv tail s⟩
  · have ⟨_, hoem, _⟩ := hv
    exact ⟨header20Bytes h, reportsOk_of_packOr rfl ((checksH20_none_iff s.cfg h).2 hv), header20Bytes_length hoem,
      h20Unpack_header20Bytes hoem tail⟩

end Sys2Proof.Machine
end

section
/-! SUPPORT. Family 42 (42_header20.md R140, R141): which check of a v2.0 header breaks first, its bytes in the spelling
of R140, and from these the statements about H20_PACK and H20_UNPACK. -/

namespace Sys2Proof.Machine

/-! ### The first broken check of a v2.0 header (R81, R271) -/

section
variable {cfg : Config} {h : H20}

/-- The Bool the model computes for `H20.oem_presence` is the check R81 states. -/
theorem oemPresence_iff (cfg : Config) (h : H20) :
    (h.oem.isSome == (h.pt == cfg.ptOem)) = true ↔ (h.oem.isSome ↔ h.pt = cfg.ptOem) := by
  rw [beq_iff_eq, Bool.eq_iff_iff, beq_iff_eq]

theorem checksH20_breaks_authType (h6 : h.authType ≠ 0x06#8) :
    firstBroken (checksH20 cfg h) = some .h20AuthTypeFixed := by
  rw [checksH20, authRmcpp, beq_false_of_ne h6, firstBroken_cons_false]

theorem checksH20_breaks_presence (h6 : h.authType = 0x06#8) (hp : ¬ (h.oem.isSome ↔ h.pt = cfg.ptOem)) :
    firstBroken (checksH20 cfg h) = some .h20OemPresence := by
  have hfalse := Bool.eq_false_iff.2 (mt (oemPresence_iff cfg h).1 hp)
  rw [checksH20, authRmcpp, beq_iff_eq.2 h6, hfalse, firstBroken_cons_true, firstBroken_cons_false]

theorem checksH20_breaks_iana {o : Oem} (h6 : h.authType = 0x06#8) (ho : h.oem = some o) (hp : h.pt = cfg.ptOem)
    (hi : 2 ^ 24 ≤ o.iana.toNat) : firstBroken (checksH20 cfg h) = some .h20IanaReserved := by
  have htrue := (oemPresence_iff cfg h).2 (iff_of_true (by rw [ho]; rfl) hp)
  have hfalse : (h.oem.all fun o => o.iana.extractLsb' 24 8 == 0#8) = false := by
    rw [ho, Option.all_some]
    exact beq_false_of_ne (mt (topByte_eq_zero_iff o.iana).1 (Nat.not_lt.2 hi))
  rw [checksH20, authRmcpp, beq_iff_eq.2 h6, htrue, hfalse, firstBroken_cons_true, firstBroken_cons_true,
    firstBroken_cons_false]

end

/-! ### The bytes of a v2.0 header in the spelling of R140 -/

/-- A 24-bit value in a 32-bit field is its three bytes and a zero byte. -/
theorem le32_eq_bytesOfNat_three {v : U32} (hv : v.toNat < 2 ^ 24) : le32 v = bytesOfNat 3 v.toNat ++ [0x00#8] := by
  have htop : v.toNat / 256 / 256 / 256 = 0 := by omega
  rw [le32_eq_bytesOfNat]
  simp [bytesOfNat, htop]

theorem header20Bytes_w20 {h : H20} (h6 : h.authType = 0x06#8) (ho : h.oem = none) :
    header20Bytes h = [0x06#8, BitVec.ofNat 8 (128 * h.enc.toNat + 64 * h.auth.toNat + h.pt.toNat)] ++
      bytesOfNat 4 h.sid.toNat ++ bytesOfNat 4 h.seq.toNat ++ bytesOfNat 2 h.payloadLen.toNat := by
  rw [header20Bytes, h6, ho, flagsByte_eq, oemBytes, List.append_nil, le32_eq_bytesOfNat, le32_eq_bytesOfNat,
    le16_eq_bytesOfNat]

theorem header20Bytes_w20o {h : H20} {o : Oem} (h6 : h.authType = 0x06#8) (ho : h.oem = some o)
    (hi : o.iana.toNat < 2 ^ 24) :
    header20Bytes h = [0x06#8, BitVec.ofNat 8 (128 * h.enc.toNat + 64 * h.auth.toNat + h.pt.toNat)] ++
      bytesOfNat 3 o.iana.toNat ++ [0x00#8] ++ bytesOfNat 2 o.pid.toNat ++ bytesOfNat 4 h.sid.toNat ++
      bytesOfNat 4 h.seq.toNat ++ bytesOfNat 2 h.payloadLen.toNat := by
  rw [header20Bytes, h6, ho, flagsByte_eq, oemBytes, le32_eq_bytesOfNat_three hi, le32_eq_bytesOfNat,
    le32_eq_bytesOfNat, le16_eq_bytesOfNat, le16_eq_bytesOfNat]
  simp only [List.append_assoc]

/-! ### The statements -/

/-- Settles O8: by cases on the three checks, in the order R81 gives them; the OEM fields choose the layout. -/
theorem h20PackEmitsLayout : Obligations.H20PackEmitsLayout := by
  intro h s
  have hok (hv : ValidH20 s.cfg h) : ReportsOk (.h20Pack h) s (.bytes (header20Bytes h)) :=
    reportsOk_of_packOr rfl ((checksH20_none_iff s.cfg h).2 hv)
  split
  · next h6 => exact refuses_of_packOr rfl (checksH20_breaks_authType h6)
  · next h6 =>
    rw [not_not] at h6
    split
    · next ho =>
      split
      · next hp => exact refuses_of_packOr rfl (checksH20_breaks_presence h6 (by simp [ho, hp]))
      · next hp =>
        rw [← header20Bytes_w20 h6 ho]
        exact hok ⟨h6, by simp [ho, hp], by simp [ho]⟩
    · next o ho =>
      split
      · next hp => exact refuses_of_packOr rfl (checksH20_breaks_presence h6 (by simpa [ho] using hp))
      · next hp =>
        rw [not_not] at hp
        split
        · next hi => exact refuses_of_packOr rfl (checksH20_breaks_iana h6 ho hp hi)
        · next hi =>
          rw [← header20Bytes_w20o h6 ho (Nat.not_le.1 hi)]
          exact hok ⟨h6, by simp [ho, hp], by simpa [ho] using hi⟩

/-- Settles O9: by cases on the two size bounds and on the payload type; a buffer under 12 bytes is short for either layout. -/
theorem h20UnpackReadsLayout : Obligations.H20UnpackReadsLayout := by
  intro buf s b1 pt
  split
  · next h12 => exact reportsErr_of_settle rfl (readHeader20_short h12)
  · next h12 =>
    split
    · next hp => exact reportsOk_of_settle rfl (readHeader20_w20 (Nat.not_lt.1 h12) hp) rfl
    · next hp =>
      rw [not_not] at hp
      split
      · next h18 => exact reportsErr_of_settle rfl (readHeader20_w20o_short h18 hp)
      · next h18 => exact reportsOk_of_settle rfl (readHeader20_w20o (Nat.not_lt.1 h18) hp) rfl

end Sys2Proof.Machine
end

section
/-! SUPPORT. Family 43 (43_trailer.md R160 to R168): the pad that PAD_SIZE gives is the smallest that aligns, which
check of a trailer breaks first, its bytes in the spelling of R164, and from these the statements about the trailer. -/

namespace Sys2Proof.Machine

/-! ### The pad size (R160, R162) -/

theorem padSize_le_of_aligns {l q : Nat} (h : (l + q) % 4 = 0) : padSize l ≤ q := by
  unfold padSize; omega

/-! ### The first broken check of a trailer (R82, R271) -/

/-- A check whose breach is `p` is the first broken one iff `p`; otherwise the rest decides. -/
theorem firstBroken_cons_eq_ite {c : Check} {holds : Bool} {rest : List (Check × Bool)} (p : Prop) [Decidable p]
    (h : holds = true ↔ ¬ p) : firstBroken ((c, holds) :: rest) = if p then some c else firstBroken rest := by
  split
  · next hp => rw [Bool.eq_false_iff.2 fun ht => h.1 ht hp, firstBroken_cons_false]
  · next hp => rw [h.2 hp, firstBroken_cons_true]

/-- The five checks of R82, each by its breach, in their order. -/
theorem firstBroken_checksTrl (t : Trl) :
    firstBroken (checksTrl t) =
      if 3 < t.pad.length then some .trlPadCount
      else if ∃ b ∈ t.pad, b ≠ 0xFF#8 then some .trlPadValue
      else if t.padLen.toNat ≠ t.pad.length then some .trlPadLen
      else if t.nextHeader ≠ 0x07#8 then some .trlNextHeader
      else if 16 < t.authCode.length then some .trlAuthcodeMax
      else none := by
  rw [checksTrl, trlAuthCodeMax, firstBroken_cons_eq_ite (3 < t.pad.length) (by simp),
    firstBroken_cons_eq_ite (∃ b ∈ t.pad, b ≠ 0xFF#8) (by simp [padByte]),
    firstBroken_cons_eq_ite (t.padLen.toNat ≠ t.pad.length) (by simp),
    firstBroken_cons_eq_ite (t.nextHeader ≠ 0x07#8) (by simp [nextHeaderByte]),
    firstBroken_cons_eq_ite (16 < t.authCode.length) (by simp), firstBroken_nil]

/-! ### The bytes of a well-formed trailer in the spelling of R164 -/

theorem trailerBytes_of_valid {t : Trl} (hv : ValidTrl t) :
    trailerBytes t =
      List.replicate t.pad.length 0xFF#8 ++ [BitVec.ofNat 8 t.pad.length, 0x07#8] ++ t.authCode := by
  obtain ⟨_, hpad, hlen, hnext, _⟩ := hv
  have hpadLen : BitVec.ofNat 8 t.pad.length = t.padLen := by rw [← hlen, BitVec.ofNat_toNat, BitVec.setWidth_eq]
  rw [hpadLen, ← hnext, ← List.eq_replicate_of_mem hpad, trailerBytes, List.append_assoc t.pad]
  rfl

/-! ### TRL_UNPACK by its pad count (R166, R272) -/

theorem exec_trlUnpack_of_le {p : Nat} (hp : p ≤ 3) (buf : Bytes) (off : Nat) (s : State) :
    exec (.trlUnpack buf off p) s = .next (s.settle ((readTrailer buf off p).map fun r => .trl r.1 r.2)) :=
  if_pos hp

theorem trlUnpack_refuses {p : Nat} (hp : 3 < p) (buf : Bytes) (off : Nat) (s : State) :
    Refuses (.trlUnpack buf off p) s (.operandRange .p) :=
  if_neg (Nat.not_le.2 hp)

/-! ### The statements -/

/-- Settles O11: PAD_SIZE's answer aligns, is at most 3, and no aligning pad is smaller. -/
theorem padSizeIsSmallestAligning : Obligations.PadSizeIsSmallestAligning := fun l _ =>
  ⟨padSize l, rfl, rfl, padSize_aligns l, padSize_le l, fun _ => padSize_le_of_aligns⟩

/-- Settles O12: TRL_PACK answers by the first broken check, and where none is broken the trailer is well-formed. -/
theorem trlPackEmitsLayout : Obligations.TrlPackEmitsLayout := by
  intro t s
  have hbroken := firstBroken_checksTrl t
  split_ifs at hbroken ⊢
  case neg =>
    rw [← trailerBytes_of_valid ((checksTrl_none_iff t).1 hbroken)]
    exact reportsOk_of_packOr rfl hbroken
  all_goals exact refuses_of_packOr rfl hbroken

/-- Settles O13: by cases on the pad count's type and on the one size bound of the strict reads. -/
theorem trlUnpackReadsLayout : Obligations.TrlUnpackReadsLayout := by
  intro buf off p s
  split
  · next hp => exact trlUnpack_refuses hp buf off s
  · next hp =>
    have he := exec_trlUnpack_of_le (Nat.not_lt.1 hp) buf off s
    split
    · next hshort => exact reportsErr_of_settle he (readTrailer_eq_error hshort)
    · next hshort => exact reportsOk_of_settle he (readTrailer_eq_ok (Nat.not_lt.1 hshort)) rfl

/-- Settles O14: a well-formed trailer packs to its layout, and its auth code ends the buffer, so the tolerant read
takes exactly that code (R167). -/
theorem trlRoundTrip : Obligations.TrlRoundTrip := by
  intro t pre s hv
  have ⟨hpad, _, _, _, hcode⟩ := hv
  exact ⟨trailerBytes t, reportsOk_of_packOr rfl ((checksTrl_none_iff t).2 hv),
    reportsOk_of_settle (exec_trlUnpack_of_le hpad _ _ s) (readTrailer_trailerBytes t pre hcode) rfl⟩

end Sys2Proof.Machine
end

section
/-! SUPPORT. Family 44 (44_frame.md R180 to R186): what an answer of a pack or a read says back, which check of a frame
breaks first, when a frame is read and that bytes after it change nothing, and from these the statements about
frames. -/

namespace Sys2Proof.Machine

/-! ### What an answer says of the checks and the reading behind it (R21, R271) -/

section
variable {α : Type} {i : Instr} {s : State}

/-- A pack that is refused IllFormed has that check broken first. -/
theorem broken_of_refuses {broken : Option Check} {b : Bytes} {c : Check} (he : exec i s = .next (s.packOr broken b))
    (hr : Refuses i s (.illFormed c)) : broken = some c := by
  have hreport := congrArg reportOf (he.symm.trans hr)
  cases broken with
  | none => simp [reportOf] at hreport
  | some c' => simpa [reportOf] using hreport

/-- A pack that emits bytes has no check broken, and the bytes are its own. -/
theorem packed_of_reportsOk {broken : Option Check} {b out : Bytes} (he : exec i s = .next (s.packOr broken b))
    (hok : ReportsOk i s (.bytes out)) : broken = none ∧ b = out := by
  have hreport := congrArg reportOf (he.symm.trans hok)
  cases broken with
  | none => simpa [reportOf] using hreport
  | some c => simp [reportOf] at hreport

/-- An access that reports an output has succeeded with a value of that output. -/
theorem read_of_reportsOk {x : Except Error α} {f : α → Output} {out : Output}
    (he : exec i s = .next (s.settle (x.map f))) (hok : ReportsOk i s out) : ∃ a, x = .ok a ∧ f a = out := by
  have hreport := congrArg reportOf (he.symm.trans hok)
  cases x with
  | ok a => exact ⟨a, rfl, by simpa [reportOf, Except.map] using hreport⟩
  | error e => simp [reportOf, Except.map] at hreport

end

/-! ### The first broken check of a frame (R83, R84, R271) -/

theorem firstBroken_append_of_some {a : List (Check × Bool)} {c : Check} (hc : firstBroken a = some c)
    (b : List (Check × Bool)) : firstBroken (a ++ b) = some c := by
  rw [firstBroken_append, hc, Option.orElse_some]

theorem firstBroken_append_of_none {a : List (Check × Bool)} (hn : firstBroken a = none) (b : List (Check × Bool)) :
    firstBroken (a ++ b) = firstBroken b := by
  rw [firstBroken_append, hn, Option.orElse_none]

theorem checksS15_breaks_len {f : S15} (hv : ValidH15 f.hdr) (hl : f.hdr.payloadLen.toNat ≠ f.payload.length) :
    firstBroken (checksS15 f) = some .s15Len := by
  rw [checksS15, firstBroken_append_of_none ((checksH15_none_iff f.hdr).2 hv), beq_false_of_ne hl,
    firstBroken_cons_false]

/-- The Bool the model computes for `S20.trailer_presence` is the check R84 states. -/
theorem trailerPresence_iff (f : S20) :
    (f.trailer.isSome == trailerExpected f.hdr) = true ↔
      (f.trailer.isSome ↔ f.hdr.auth = true ∧ f.hdr.sid ≠ 0#32) := by
  rw [beq_iff_eq, Bool.eq_iff_iff, trailerExpected_iff]

/-- Past the header's checks, the four checks of R84, each by its breach, in their order. -/
theorem firstBroken_checksS20 {cfg : Config} {f : S20} (hv : ValidH20 cfg f.hdr) :
    firstBroken (checksS20 cfg f) =
      if f.hdr.payloadLen.toNat ≠ f.payload.length then some .s20Len
      else if ¬ (f.trailer.isSome ↔ f.hdr.auth = true ∧ f.hdr.sid ≠ 0#32) then some .s20TrailerPresence
      else if ¬ ∀ t ∈ f.trailer, ValidTrl t then some .s20Trailer
      else if ¬ ∀ t ∈ f.trailer, t.pad.length = padSize (hsize20 cfg f.hdr + f.payload.length) then
        some .s20PadAlign
      else none := by
  rw [checksS20, firstBroken_append_of_none ((checksH20_none_iff cfg f.hdr).2 hv),
    firstBroken_cons_eq_ite (f.hdr.payloadLen.toNat ≠ f.payload.length) (by simp),
    firstBroken_cons_eq_ite (¬ (f.trailer.isSome ↔ f.hdr.auth = true ∧ f.hdr.sid ≠ 0#32))
      ((trailerPresence_iff f).trans not_not.symm),
    firstBroken_cons_eq_ite (¬ ∀ t ∈ f.trailer, ValidTrl t)
      (by simp [Option.all_eq_true, trailerHolds_iff]),
    firstBroken_cons_eq_ite (¬ ∀ t ∈ f.trailer, t.pad.length = padSize (hsize20 cfg f.hdr + f.payload.length))
      (by simp [Option.all_eq_true]), firstBroken_nil]

/-! ### How long a packed frame is (R78, R184) -/

theorem trailerPart_length_pos_iff (tr : Option Trl) : 0 < (trailerPart tr).length ↔ tr.isSome := by
  cases tr with
  | none => simp [trailerPart]
  | some t => simp [trailerPart, trailerBytes]

theorem frame20Bytes_length {cfg : Config} {f : S20} (hv : ValidH20 cfg f.hdr) :
    (frame20Bytes f).length = hsize20 cfg f.hdr + f.payload.length + (trailerPart f.trailer).length := by
  have ⟨_, hoem, _⟩ := hv
  rw [frame20Bytes, List.length_append, List.length_append, header20Bytes_length hoem]

/-! ### When a frame is read (R181, R183) -/

theorem readFrame15_eq_ok_iff {buf : Bytes} {f : S15} : readFrame15 buf = .ok f ↔ Whole15 buf ∧ s15At buf = f := by
  rw [readFrame15_eq_at]
  split_ifs with hsize hpayload
  · exact iff_of_false nofun fun h => absurd h.1 (by unfold Whole15; omega)
  · exact iff_of_false nofun fun h => absurd h.1 (Nat.not_le.2 hpayload)
  · rw [Except.ok.injEq, and_iff_right (Nat.not_lt.1 hpayload)]

theorem readFrame20_eq_ok_iff {cfg : Config} {buf : Bytes} {f : S20} :
    readFrame20 cfg buf = .ok f ↔ Whole20 cfg buf ∧ s20At cfg buf = f := by
  rw [readFrame20_eq_at]
  split_ifs with hsize hpayload htrailer
  · exact iff_of_false nofun fun h => absurd h.1.1 (by unfold end20At; omega)
  · exact iff_of_false nofun fun h => absurd h.1.1 (Nat.not_le.2 hpayload)
  · obtain ⟨hauth, hsid, hl⟩ := htrailer
    exact iff_of_false nofun fun h => absurd (h.1.2 ⟨hauth, hsid⟩) (Nat.not_le.2 hl)
  · have hwhole : Whole20 cfg buf :=
      ⟨Nat.not_lt.1 hpayload, fun ⟨hauth, hsid⟩ => Nat.not_lt.1 fun hl => htrailer ⟨hauth, hsid, hl⟩⟩
    rw [Except.ok.injEq, and_iff_right hwhole]

/-! ### Bytes after a field leave the field as it is (R186) -/

section
variable {buf : Bytes} (extra : Bytes)

theorem u16At_append {o : Nat} (h : o + 2 ≤ buf.length) : u16At (buf ++ extra) o = u16At buf o := by
  rw [u16At, List.getD_append _ _ _ _ (by omega), List.getD_append _ _ _ _ (by omega), u16At]

theorem u32At_append {o : Nat} (h : o + 4 ≤ buf.length) : u32At (buf ++ extra) o = u32At buf o := by
  rw [u32At, List.getD_append _ _ _ _ (by omega), List.getD_append _ _ _ _ (by omega),
    List.getD_append _ _ _ _ (by omega), List.getD_append _ _ _ _ (by omega), u32At]

theorem bytesAt_append {o n : Nat} (h : o + n ≤ buf.length) : bytesAt (buf ++ extra) o n = bytesAt buf o n := by
  rw [bytesAt, List.drop_append_of_le_length (by omega), List.take_append_of_le_length (by simp; omega), bytesAt]

theorem size15At_append (h : 1 ≤ buf.length) : size15At (buf ++ extra) = size15At buf := by
  rw [size15At, List.getD_append _ _ _ _ h, size15At]

theorem le_size15At (buf : Bytes) : 10 ≤ size15At buf := by
  unfold size15At; split <;> omega

theorem h15At_append (h : size15At buf ≤ buf.length) : h15At (buf ++ extra) = h15At buf := by
  have h10 := le_size15At buf
  rw [h15At, size15At_append extra (by omega), List.getD_append _ _ _ 0 (by omega), u32At_append extra (by omega),
    u32At_append extra (by omega), List.getD_append _ _ _ _ (by omega), h15At]
  by_cases h0 : buf.getD 0 0#8 = 0x00#8
  · rw [if_pos h0, if_pos h0]
  · rw [size15At, if_neg h0] at h
    rw [if_neg h0, if_neg h0, bytesAt_append extra (by omega)]

theorem s15At_append (h : Whole15 buf) : s15At (buf ++ extra) = s15At buf := by
  have hsize : size15At buf ≤ buf.length := le_of_add_le_left h
  have h10 := le_size15At buf
  rw [s15At, h15At_append extra hsize, size15At_append extra (by omega), bytesAt_append extra h, s15At]

theorem whole15_append (h : Whole15 buf) : Whole15 (buf ++ extra) := by
  have hsize : size15At buf ≤ buf.length := le_of_add_le_left h
  have h10 := le_size15At buf
  rw [Whole15, h15At_append extra hsize, size15At_append extra (by omega), List.length_append]
  exact Nat.le_add_right_of_le h

variable {cfg : Config}

theorem le_size20At (cfg : Config) (buf : Bytes) : 12 ≤ size20At cfg buf := by
  unfold size20At; split <;> omega

theorem size20At_append (h : 2 ≤ buf.length) : size20At cfg (buf ++ extra) = size20At cfg buf := by
  rw [size20At, List.getD_append _ _ _ _ h, size20At]

theorem h20At_append (h : size20At cfg buf ≤ buf.length) : h20At cfg (buf ++ extra) = h20At cfg buf := by
  have h12 := le_size20At cfg buf
  rw [h20At, h20At, size20At_append extra (by omega), List.getD_append _ _ _ 0 (by omega),
    List.getD_append _ _ _ 1 (by omega), u32At_append extra (o := 2) (by omega), u16At_append extra (o := 6) (by omega),
    u32At_append extra (o := size20At cfg buf - 10) (by omega),
    u32At_append extra (o := size20At cfg buf - 6) (by omega),
    u16At_append extra (o := size20At cfg buf - 2) (by omega)]

theorem end20At_append (h : size20At cfg buf ≤ buf.length) : end20At cfg (buf ++ extra) = end20At cfg buf := by
  have h12 := le_size20At cfg buf
  rw [end20At, size20At_append extra (by omega), h20At_append extra h, end20At]

/-- The auth code is read up to its 16th byte: a trailer that has all 16 is read the same, whatever follows (R167). -/
theorem trlAt_append {off p : Nat} (h : (trlAt buf off p).authCode.length = 16) :
    trlAt (buf ++ extra) off p = trlAt buf off p := by
  have hl : off + p + 2 + 16 ≤ buf.length := by simp [trlAt, bytesAt] at h; omega
  rw [trlAt, bytesAt_append extra (by omega), bytesAt_append extra hl, List.getD_append _ _ _ _ (by omega),
    List.getD_append _ _ _ _ (by omega), trlAt]

theorem s20At_append (h : end20At cfg buf ≤ buf.length)
    (hcode : ∀ t ∈ (s20At cfg buf).trailer, t.authCode.length = 16) : s20At cfg (buf ++ extra) = s20At cfg buf := by
  have hsize : size20At cfg buf ≤ buf.length := le_of_add_le_left h
  have h12 := le_size20At cfg buf
  rw [s20At, h20At_append extra hsize, end20At_append extra hsize, size20At_append extra (by omega),
    bytesAt_append extra h]
  by_cases hx : (h20At cfg buf).auth = true ∧ (h20At cfg buf).sid ≠ 0#32
  · rw [s20At, if_pos hx] at hcode
    rw [s20At, if_pos hx, if_pos hx, trlAt_append extra (hcode _ rfl)]
  · rw [s20At, if_neg hx, if_neg hx]

theorem whole20_append (h : Whole20 cfg buf) : Whole20 cfg (buf ++ extra) := by
  obtain ⟨hend, htrailer⟩ := h
  have hsize : size20At cfg buf ≤ buf.length := le_of_add_le_left hend
  rw [Whole20, h20At_append extra hsize, end20At_append extra hsize, List.length_append]
  exact ⟨Nat.le_add_right_of_le hend, fun hx => Nat.le_add_right_of_le (htrailer hx)⟩

end

/-! ### The statements -/

/-- Settles O15: the header's checks come first, then the payload's length. -/
theorem s15PackConcatenates : Obligations.S15PackConcatenates := by
  intro f s
  refine ⟨fun hv => ?_, fun hh hl => ?_, fun c hc => ?_⟩
  · exact ⟨header15Bytes f.hdr, reportsOk_of_packOr rfl ((checksH15_none_iff f.hdr).2 hv.1),
      reportsOk_of_packOr rfl ((checksS15_none_iff f).2 hv)⟩
  · exact refuses_of_packOr rfl (checksS15_breaks_len hh hl)
  · exact refuses_of_packOr rfl (firstBroken_append_of_some (broken_of_refuses rfl hc) _)

/-- Settles O16: the reading's own cases, in its order. -/
theorem s15UnpackSplits : Obligations.S15UnpackSplits := by
  intro buf s
  have hread := readFrame15_eq_at buf
  split_ifs at hread ⊢
  · exact reportsErr_of_settle rfl hread
  · exact reportsErr_of_settle rfl hread
  · exact reportsOk_of_settle rfl hread rfl

/-- Settles O17: the header's checks come first, then those of R84 in their order. Where only the pad is left to break
one, it is the pad that does not fit. -/
theorem s20PackConcatenates : Obligations.S20PackConcatenates := by
  intro f s
  refine ⟨fun hv => ?_, fun c hc => ?_, fun hh => ?_⟩
  · have ⟨hhdr, _, _, htrl⟩ := hv
    have hpack : ReportsOk (.s20Pack f) s (.bytes (frame20Bytes f)) :=
      reportsOk_of_packOr rfl ((checksS20_none_iff s.cfg f).2 hv)
    refine ⟨header20Bytes f.hdr, reportsOk_of_packOr rfl ((checksH20_none_iff s.cfg f.hdr).2 hhdr), ?_, ?_⟩
    · intro hnone
      rwa [frame20Bytes, hnone, trailerPart, List.append_nil] at hpack
    · intro t hsome
      rw [frame20Bytes, hsome, trailerPart] at hpack
      exact ⟨trailerBytes t, reportsOk_of_packOr rfl ((checksTrl_none_iff t).2 (htrl t hsome)), hpack⟩
  · exact refuses_of_packOr rfl (firstBroken_append_of_some (broken_of_refuses rfl hc) _)
  · have hbroken := firstBroken_checksS20 hh
    split
    · next hl => exact refuses_of_packOr rfl (hbroken.trans (if_pos hl))
    · next hl =>
      rw [if_neg hl] at hbroken
      split
      · next hp => exact refuses_of_packOr rfl (hbroken.trans (if_pos hp))
      · next hp =>
        rw [if_neg hp] at hbroken
        intro t ht
        split
        · next hv => exact refuses_of_packOr rfl (hbroken.trans (if_pos fun hall => hv (hall t ht)))
        · next hv =>
          have hall : ∀ t ∈ f.trailer, ValidTrl t := by simpa [ht] using hv
          rw [if_neg (not_not.2 hall)] at hbroken
          intro hfits
          exact refuses_of_packOr rfl (hbroken.trans (if_pos fun hpad => hfits ⟨not_not.1 hp, hpad⟩))

/-- Settles O18: the reading's own cases, in its order. -/
theorem s20UnpackSplits : Obligations.S20UnpackSplits := by
  intro buf s
  have hread := readFrame20_eq_at s.cfg buf
  split_ifs at hread ⊢
  · exact reportsErr_of_settle rfl hread
  · exact reportsErr_of_settle rfl hread
  · exact reportsErr_of_settle rfl hread
  · exact reportsOk_of_settle rfl hread rfl

/-- Settles O19: a well-formed frame packs to its layout, and the reading of that layout gives it back. -/
theorem frameRoundTrip : Obligations.FrameRoundTrip := by
  intro s
  refine ⟨fun f hv => ?_, fun f hv => ?_⟩
  · have hread := readFrame15_frame15Bytes hv []
    rw [List.append_nil] at hread
    exact ⟨frame15Bytes f, reportsOk_of_packOr rfl ((checksS15_none_iff f).2 hv), reportsOk_of_settle rfl hread rfl⟩
  · exact ⟨frame20Bytes f, reportsOk_of_packOr rfl ((checksS20_none_iff s.cfg f).2 hv),
      reportsOk_of_settle rfl (readFrame20_frame20Bytes hv) rfl⟩

/-- Settles O20: a frame that was read, like one that was packed, has the trailer its header announces, and a trailer
that is there has at least its two fixed bytes. -/
theorem trailerPresenceLaw : Obligations.TrailerPresenceLaw := by
  refine ⟨fun buf s f hok => ?_, fun f s b hok => ?_⟩
  · obtain ⟨f', hread, hf⟩ := read_of_reportsOk rfl hok
    cases hf
    have ⟨_, hpresence, _⟩ := readFrame20_ok_cases hread
    exact hpresence
  · obtain ⟨hnone, rfl⟩ := packed_of_reportsOk rfl hok
    have ⟨hhdr, _, ⟨hpresence, _⟩, _⟩ := (checksS20_none_iff s.cfg f).1 hnone
    rw [frame20Bytes_length hhdr, ← hsize20_eq, Nat.lt_add_right_iff_pos, trailerPart_length_pos_iff]
    exact hpresence

/-- Settles O21: a frame is read where it is whole in the buffer, and no field of it lies beyond that. Of the trailer
this asks for all 16 bytes of the auth code, since a shorter one would take in bytes that follow (R167). -/
theorem excessBytesIgnored : Obligations.ExcessBytesIgnored := by
  intro buf extra s
  refine ⟨fun f hok => ?_, fun f hok htrailer => ?_⟩
  · obtain ⟨f', hread, hf⟩ := read_of_reportsOk rfl hok
    cases hf
    obtain ⟨hwhole, hat⟩ := readFrame15_eq_ok_iff.1 hread
    have hread' := readFrame15_eq_ok_iff.2 ⟨whole15_append extra hwhole, (s15At_append extra hwhole).trans hat⟩
    exact reportsOk_of_settle rfl hread' rfl
  · obtain ⟨f', hread, hf⟩ := read_of_reportsOk rfl hok
    cases hf
    obtain ⟨hwhole, rfl⟩ := readFrame20_eq_ok_iff.1 hread
    have hcode : ∀ t ∈ (s20At s.cfg buf).trailer, t.authCode.length = 16 := by
      obtain hnone | ⟨t, hsome, h16⟩ := htrailer
      · simp [hnone]
      · simpa [hsome] using h16
    have hread' := readFrame20_eq_ok_iff.2 ⟨whole20_append extra hwhole, s20At_append extra hwhole.1 hcode⟩
    exact reportsOk_of_settle rfl hread' rfl

end Sys2Proof.Machine
end

section
/-! SUPPORT. Family 45 (45_context.md R201 to R213): what the context check in front of an operation makes of it, and
the statements about the context registers and the v2.0 state machine. -/

namespace Sys2Proof.Machine

/-! ### An operation behind the context check (R263) -/

section
variable {i : Instr} {s goOn : State}

theorem exec_of_live (he : exec i s = .next (s.needCtx goOn)) (hl : s.ctx.live = true) : exec i s = .next goOn := by
  rw [he, State.needCtx_of_live hl]

theorem reportsErr_of_dead (he : exec i s = .next (s.needCtx goOn)) (hl : s.ctx.live = false) :
    ReportsErr i s .noContext := by
  rw [ReportsErr, he, State.needCtx_of_dead hl]; rfl

/-- The two answers of an operation behind the context check. -/
theorem goesOn_or_noContext (he : exec i s = .next (s.needCtx goOn)) :
    if s.ctx.live then exec i s = .next goOn else ReportsErr i s .noContext := by
  split
  · next hl => exact exec_of_live he hl
  · next hl => exact reportsErr_of_dead he (eq_false_of_ne_true hl)

end

/-! ### The transition table (R210, R212) -/

/-- CloseSent, the state of the largest code, has no successor. -/
theorem stateCode_ne_closeSent_succ (q : V20State) : stateCode q ≠ stateCode .closeSent + 1 := by
  cases q <;> decide

/-- SM_ADVANCE's check refuses a target iff its code is not the next one: the check for CloseSent refuses no more. -/
theorem closeSent_or_not_succ_iff (q target : V20State) :
    (q = .closeSent ∨ stateCode target ≠ stateCode q + 1) ↔ stateCode target ≠ stateCode q + 1 := by
  refine or_iff_right_of_imp ?_
  rintro rfl
  exact stateCode_ne_closeSent_succ target

/-- What the table says of `i` where it ends in `t` with a live context: a V20_STATE that differs was reached by
SM_ADVANCE to the successor, or by SM_RESET or CTX_CREATE to PreSession. -/
def MovesByTable (i : Instr) (s t : State) : Prop :=
  t.ctx.live = true → t.ctx.v20State ≠ s.ctx.v20State →
    ((∃ target, i = .smAdvance target ∧ t.ctx.v20State = target) ∧
      stateCode t.ctx.v20State = stateCode s.ctx.v20State + 1) ∨
    (t.ctx.v20State = .preSession ∧ (i = .smReset ∨ ∃ p, i = .ctxCreate p))

theorem MovesByTable.of_eq {i : Instr} {s t : State} (h : t.ctx.v20State = s.ctx.v20State) : MovesByTable i s t :=
  fun _ hne => absurd h hne

theorem MovesByTable.needCtx {i : Instr} {s goOn : State} (h : MovesByTable i s goOn) :
    MovesByTable i s (s.needCtx goOn) := by
  obtain ⟨-, he⟩ | ⟨-, he⟩ := State.needCtx_cases s goOn
  · rw [he]; exact h
  · rw [he]; exact .of_eq rfl

/-- Every operation of family 45 keeps to the table. -/
theorem exec_contextOp_movesByTable {i : Instr} (hpure : i.isPure = false) (hport : i.isPort = false) (s : State) :
    ∃ t, exec i s = .next t ∧ MovesByTable i s t := by
  cases i with
  | ctxCreate proto => exact ⟨_, rfl, fun _ _ => .inr ⟨rfl, .inr ⟨proto, rfl⟩⟩⟩
  | ctxDestroy => exact ⟨_, rfl, .needCtx nofun⟩
  | ctxRead | ctxSetV15Sid _ | ctxSetV15Seq _ | ctxSetV20Sid _ | ctxSetV20Seq _ | ctxSetV20Keys _ =>
    exact ⟨_, rfl, .needCtx (.of_eq rfl)⟩
  | ctxSetV15 active authType =>
    refine ⟨_, rfl, .needCtx ?_⟩
    split
    · exact .of_eq rfl
    · exact .of_eq rfl
  | smAdvance target =>
    refine ⟨_, rfl, .needCtx ?_⟩
    split
    · exact .of_eq rfl
    · next h =>
      have hsucc : stateCode target = stateCode s.ctx.v20State + 1 :=
        not_not.1 fun hne => h ((closeSent_or_not_succ_iff s.ctx.v20State target).2 hne)
      exact fun _ _ => .inl ⟨⟨target, rfl, rfl⟩, hsucc⟩
  | smReset => exact ⟨_, rfl, .needCtx fun _ _ => .inr ⟨rfl, .inl rfl⟩⟩
  | gen15 _ | gen20 _ _ _ | build _ _ _ | parse _ => cases hport
  | _ => cases hpure

/-! ### The statements -/

/-- Settles O28: an operation that is not of family 45 writes no register, and each of those keeps to the table. -/
theorem stateMovesOnlyByTable : Obligations.StateMovesOnlyByTable := by
  intro i s t h
  obtain ⟨-, hend⟩ | ⟨-, -, hctx⟩ | ⟨hpure, hport, -⟩ := exec_cases h
  · exact MovesByTable.of_eq (congrArg (·.v20State) hend.ctx)
  · exact MovesByTable.of_eq (congrArg (·.v20State) hctx)
  · obtain ⟨_, he, hmoves⟩ := exec_contextOp_movesByTable hpure hport s
    cases he.symm.trans h
    exact hmoves

/-- Settles O22: CTX_CREATE asks for no context. What the registers hold after CTX_DESTROY is a free draw (log entry 6),
of which CTX_LIVE = 0 alone is said. -/
theorem contextCreatedAndDestroyed : Obligations.ContextCreatedAndDestroyed := by
  intro p s
  refine ⟨rfl, ?_⟩
  split
  · next hl => exact ⟨Context.destroyed s.draws, s.draws + 1, rfl, exec_of_live rfl hl⟩
  · next hl => exact reportsErr_of_dead rfl (eq_false_of_ne_true hl)

/-- Settles O23: the context check is the only one of CTX_READ. -/
theorem ctxReadShowsRegisters : Obligations.CtxReadShowsRegisters := fun _ => goesOn_or_noContext rfl

/-- Settles O24: the context check, then that of R204. -/
theorem ctxSetV15KeepsActiveAuthType : Obligations.CtxSetV15KeepsActiveAuthType := by
  intro active authType s
  split
  · next hl => exact reportsErr_of_dead rfl hl
  · next hl =>
    have he : exec (.ctxSetV15 active authType) s = .next _ := exec_of_live rfl (eq_true_of_ne_false hl)
    split
    · next h => rw [if_pos h] at he; exact he
    · next h => rw [if_neg h] at he; exact he

/-- Settles O25: the context check is the only one of each of the five. -/
theorem sessionRegisterWrites : Obligations.SessionRegisterWrites := by
  intro v k s
  split
  · next hl =>
    exact ⟨exec_of_live rfl hl, exec_of_live rfl hl, exec_of_live rfl hl, exec_of_live rfl hl, exec_of_live rfl hl⟩
  · next hl =>
    have hdead := eq_false_of_ne_true hl
    exact ⟨reportsErr_of_dead rfl hdead, reportsErr_of_dead rfl hdead, reportsErr_of_dead rfl hdead,
      reportsErr_of_dead rfl hdead, reportsErr_of_dead rfl hdead⟩

/-- Settles O26: the context check, then that of R210. -/
theorem smAdvanceToSuccessorOnly : Obligations.SmAdvanceToSuccessorOnly := by
  intro target s
  split
  · next hl => exact reportsErr_of_dead rfl hl
  · next hl =>
    have he : exec (.smAdvance target) s = .next _ := exec_of_live rfl (eq_true_of_ne_false hl)
    have hiff := closeSent_or_not_succ_iff s.ctx.v20State target
    split
    · next h => rw [if_neg fun hbad => hiff.1 hbad h] at he; exact he
    · next h => rw [if_pos (hiff.2 h)] at he; exact he

/-- Settles O27: the context check is the only one of SM_RESET. -/
theorem smResetDiscardsHandshake : Obligations.SmResetDiscardsHandshake := fun _ => goesOn_or_noContext rfl

end Sys2Proof.Machine
end

section
/-! SUPPORT. Which registers GEN15 and GEN20 read (R215, R230): with the others replaced, each ends in the same state
but for those registers. -/

namespace Sys2Proof.Machine

/-! ### The register file replaced -/

/-- The state with another register file. -/
def State.withCtx (c : Context) (s : State) : State := { s with ctx := c }

section
variable (c : Context) (s : State)

@[simp] theorem State.withCtx_cfg : (s.withCtx c).cfg = s.cfg := rfl
@[simp] theorem State.withCtx_ctx : (s.withCtx c).ctx = c := rfl
@[simp] theorem State.withCtx_report : (s.withCtx c).report = s.report := rfl
@[simp] theorem State.withCtx_acAnswer : (s.withCtx c).acAnswer = s.acAnswer := rfl
@[simp] theorem State.withCtx_encAnswer : (s.withCtx c).encAnswer = s.encAnswer := rfl
@[simp] theorem State.withCtx_trlgenAnswer : (s.withCtx c).trlgenAnswer = s.trlgenAnswer := rfl
@[simp] theorem State.afterAc_withCtx : (s.withCtx c).afterAc = s.afterAc.withCtx c := rfl
@[simp] theorem State.afterEnc_withCtx : (s.withCtx c).afterEnc = s.afterEnc.withCtx c := rfl
@[simp] theorem State.afterTrlgen_withCtx : (s.withCtx c).afterTrlgen = s.afterTrlgen.withCtx c := rfl
@[simp] theorem State.refuse_withCtx (r : Reason) : (s.withCtx c).refuse r = (s.refuse r).withCtx c := rfl
@[simp] theorem State.finish_withCtx (out : Output) (trace : List Event) :
    (s.withCtx c).finish out trace = (s.finish out trace).withCtx c := rfl
@[simp] theorem State.raiseError_withCtx (e : Error) (trace : List Event) :
    (s.withCtx c).raiseError e trace = (s.raiseError e trace).withCtx c := rfl

end

theorem State.needCtx_withCtx {c : Context} {s goOn goOn' : State} (hlive : c.live = s.ctx.live)
    (hgo : goOn' = goOn.withCtx c) : (s.withCtx c).needCtx goOn' = (s.needCtx goOn).withCtx c := by
  obtain ⟨hl, h⟩ | ⟨hl, h⟩ := State.needCtx_cases s goOn
  · rw [h, State.needCtx_of_live (hlive.trans hl), hgo]
  · rw [h, State.needCtx_of_dead (hlive.trans hl), State.raiseError_withCtx]

/-! ### GEN15 and the v1.5 registers -/

/-- `c` has CTX_LIVE and the v1.5 registers of `d`. -/
structure SameV15 (c d : Context) : Prop where
  live : c.live = d.live
  active : c.v15Active = d.v15Active
  authType : c.v15AuthType = d.v15AuthType
  sid : c.v15Sid = d.v15Sid
  seq : c.v15Seq = d.v15Seq

theorem State.gen15WithAnswer_withCtx {c : Context} {s : State} (h : c.v15AuthType = s.ctx.v15AuthType) (raw : Bytes)
    (sid seq : U32) (a : Answer Bytes) :
    (s.withCtx c).gen15WithAnswer raw sid seq a = (s.gen15WithAnswer raw sid seq a).withCtx c := by
  cases a with
  | fail => rfl
  | ok code => by_cases hlen : code.length = h15AuthCodeLen <;> simp [State.gen15WithAnswer, hlen, h]

theorem State.gen15Authenticated_withCtx {c : Context} {s : State} (h : SameV15 c s.ctx) (raw : Bytes) :
    (s.withCtx c).gen15Authenticated raw = (s.gen15Authenticated raw).withCtx c := by
  simp only [State.gen15Authenticated, State.withCtx_ctx, h.sid, h.seq]
  cases s.ctx.v15Sid with
  | none => rfl
  | some sid =>
    cases s.ctx.v15Seq with
    | none => rfl
    | some seq => exact State.gen15WithAnswer_withCtx (s := s.afterAc) h.authType raw sid seq s.acAnswer

/-- GEN15 reads CTX_LIVE and the v1.5 registers alone. -/
theorem State.gen15_withCtx {c : Context} {s : State} (h : SameV15 c s.ctx) (raw : Bytes) :
    (s.withCtx c).gen15 raw = (s.gen15 raw).withCtx c := by
  refine State.needCtx_withCtx h.live ?_
  simp only [State.withCtx_ctx, h.active, h.authType, State.gen15Authenticated_withCtx h raw]
  split
  · rfl
  · split
    · rfl
    · rfl

theorem reportOf_gen15_withCtx {c : Context} {s : State} (h : SameV15 c s.ctx) (raw : Bytes) :
    reportOf (exec (.gen15 raw) (s.withCtx c)) = reportOf (exec (.gen15 raw) s) :=
  (congrArg State.report (State.gen15_withCtx h raw)).trans (State.withCtx_report ..)

/-! ### GEN20 and the v2.0 registers -/

/-- `c` has CTX_LIVE and the v2.0 registers of `d`. -/
structure SameV20 (c d : Context) : Prop where
  live : c.live = d.live
  state : c.v20State = d.v20State
  sid : c.v20Sid = d.v20Sid
  seq : c.v20Seq = d.v20Seq
  keys : c.v20Keys = d.v20Keys

/-- How TRLGEN's answer is taken depends on no register. -/
theorem State.gen20WithTrailer_withCtx (c : Context) (hb p : Bytes) (a : Answer Trl) (trace : List Event) (s : State) :
    (s.withCtx c).gen20WithTrailer hb p a trace = (s.gen20WithTrailer hb p a trace).withCtx c := by
  cases a with
  | fail => rfl
  | ok t => cases h : trailerAccepted t hb p <;> simp [State.gen20WithTrailer, h]

/-- Once its wire payload is known, GEN20 reads no register. -/
theorem State.gen20Sealed_withCtx (c : Context) (active : Bool) (pt : UInt6) (oem : Option Oem) (sid seq : U32)
    (p : Bytes) (trace : List Event) (s : State) :
    (s.withCtx c).gen20Sealed active pt oem sid seq p trace =
      (s.gen20Sealed active pt oem sid seq p trace).withCtx c := by
  unfold State.gen20Sealed
  split
  · rfl
  · dsimp only
    split
    · exact State.gen20WithTrailer_withCtx c _ p s.trlgenAnswer trace s.afterTrlgen
    · rfl

theorem State.gen20Active_withCtx {c : Context} {s : State} (h : SameV20 c s.ctx) (raw : Bytes) (pt : UInt6)
    (oem : Option Oem) : (s.withCtx c).gen20Active raw pt oem = (s.gen20Active raw pt oem).withCtx c := by
  simp only [State.gen20Active, State.withCtx_ctx, h.sid, h.seq]
  cases s.ctx.v20Sid with
  | none => rfl
  | some sid =>
    cases s.ctx.v20Seq with
    | none => rfl
    | some seq =>
      cases henc : s.encAnswer <;> simp [State.gen20WithPayload, henc, h.keys, State.gen20Sealed_withCtx]

/-- GEN20 reads CTX_LIVE and the v2.0 registers alone. -/
theorem State.gen20_withCtx {c : Context} {s : State} (h : SameV20 c s.ctx) (raw : Bytes) (pt : UInt6)
    (oem : Option Oem) : (s.withCtx c).gen20 raw pt oem = (s.gen20 raw pt oem).withCtx c := by
  simp only [State.gen20, State.withCtx_cfg]
  cases oemShape s.cfg pt oem with
  | some name => rfl
  | none =>
    refine State.needCtx_withCtx h.live ?_
    simp only [State.withCtx_ctx, h.state]
    split
    · exact State.gen20Active_withCtx h raw pt oem
    · exact State.gen20Sealed_withCtx ..

theorem reportOf_gen20_withCtx {c : Context} {s : State} (h : SameV20 c s.ctx) (raw : Bytes) (pt : UInt6)
    (oem : Option Oem) : reportOf (exec (.gen20 raw pt oem) (s.withCtx c)) = reportOf (exec (.gen20 raw pt oem) s) :=
  (congrArg State.report (State.gen20_withCtx h raw pt oem)).trans (State.withCtx_report ..)

/-! ### The statement -/

/-- Settles O41: each register file of the statement has CTX_LIVE and the generator's own registers unreplaced. -/
theorem generationsDoNotMix : Obligations.GenerationsDoNotMix := by
  intro raw pt oem s c
  refine ⟨reportOf_gen15_withCtx (s := s) ?_ raw, reportOf_gen20_withCtx (s := s) ?_ raw pt oem⟩
  · exact ⟨rfl, rfl, rfl, rfl, rfl⟩
  · exact ⟨rfl, rfl, rfl, rfl, rfl⟩

end Sys2Proof.Machine
end

section
/-! SUPPORT. GEN15 (46_generator.md R231): the bytes of its frames in the spelling of R231, which sessions are
authenticated, the frame of one that is not, and the statement about its cases. -/

namespace Sys2Proof.Machine

/-! ### The bytes of a GEN15 frame -/

theorem gen15Frame_unauthenticated (raw : Bytes) :
    gen15Frame 0x00#8 0#32 0#32 none raw = List.replicate 9 0x00#8 ++ [BitVec.ofNat 8 raw.length] ++ raw := by
  have hzero : le32 0#32 = List.replicate 4 0x00#8 := by decide
  rw [gen15Frame, frame15Bytes, header15Bytes, hzero]
  rfl

theorem gen15Frame_eq_bytesOfNat (authType : Byte) (seq sid : U32) (code raw : Bytes) :
    gen15Frame authType seq sid (some code) raw =
      [authType] ++ bytesOfNat 4 seq.toNat ++ bytesOfNat 4 sid.toNat ++ code ++ [BitVec.ofNat 8 raw.length] ++ raw := by
  rw [gen15Frame, frame15Bytes, header15Bytes_eq_bytesOfNat, Option.getD_some]

/-! ### Which session is authenticated -/

/-- A session is authenticated (R231): it is active, and its auth type is not AUTH_NONE. -/
abbrev Authenticated15 (c : Context) : Prop := c.v15Active = true ∧ c.v15AuthType ≠ 0x00#8

theorem not_authenticated15_iff {c : Context} :
    ¬ Authenticated15 c ↔ c.v15Active = false ∨ c.v15AuthType = 0x00#8 := by
  rw [not_and_or, Bool.not_eq_true, not_not]

theorem gen15_reportsOk_unauthenticated {raw : Bytes} {s : State} (hlive : s.ctx.live = true)
    (hlen : raw.length ≤ 255) (hauth : ¬ Authenticated15 s.ctx) :
    ReportsOk (.gen15 raw) s (.bytes (List.replicate 9 0x00#8 ++ [BitVec.ofNat 8 raw.length] ++ raw)) := by
  have he : exec (.gen15 raw) s = .next _ := exec_of_live rfl hlive
  rw [LengthLimit.value, authNone, if_neg (Nat.not_lt.2 hlen), if_neg hauth, gen15Frame_unauthenticated] at he
  exact he

/-! ### The statement -/

/-- Settles O30: by the ways GEN15 ends, and for the authenticated one by the ways AC's answer is taken. What AC answers
is the port's (log entry 2). -/
theorem gen15BuildsFrame : Obligations.Gen15BuildsFrame := by
  intro raw s
  obtain ⟨hl, h⟩ | ⟨hl, hlong, h⟩ | ⟨hl, hlen, hauth, -⟩ | ⟨hl, hlen, hauth, hregs⟩ := State.gen15_cases raw s
  · rw [if_pos hl]
    exact congrArg Host.Outcome.next h
  · rw [if_neg (ne_false_of_eq_true hl), if_pos hlong]
    exact congrArg Host.Outcome.next h
  · rw [if_neg (ne_false_of_eq_true hl), if_neg (Nat.not_lt.2 hlen), if_pos (not_authenticated15_iff.1 hauth)]
    exact gen15_reportsOk_unauthenticated hl hlen hauth
  · rw [if_neg (ne_false_of_eq_true hl), if_neg (Nat.not_lt.2 hlen),
      if_neg fun hnot => not_authenticated15_iff.2 hnot hauth]
    obtain ⟨hsid, h⟩ | ⟨sid, hsid, hseq, h⟩ | ⟨sid, seq, hsid, hseq, h⟩ := hregs
    · rw [hsid]
      exact congrArg Host.Outcome.next h
    · rw [hsid, hseq]
      exact congrArg Host.Outcome.next h
    · rw [hsid, hseq]
      refine (congrArg Host.Outcome.next h).trans (congrArg Host.Outcome.next ?_)
      obtain ⟨ha, hend⟩ | ⟨code, ha, hbad, hend⟩ | ⟨code, ha, h16, hend⟩ :=
        State.gen15WithAnswer_cases raw sid seq s.acAnswer s.afterAc
      · rw [hend, ha]; rfl
      · rw [hend, ha]; simp only [if_neg hbad]; rfl
      · rw [hend, ha, gen15Frame_eq_bytesOfNat]; simp only [if_pos h16]; rfl

end Sys2Proof.Machine
end

section
/-! SUPPORT. GEN20 (46_generator.md R233, R234, R242): H20_PACK emits the header it builds, what follows once its wire
payload is known, and the statements about its frames. -/

namespace Sys2Proof.Machine

/-! ### The header of a GEN20 frame -/

section
variable {cfg : Config} {active : Bool} {pt : UInt6} {oem : Option Oem} {sid seq : U32} {p : Bytes}

theorem validH20_gen20Header (hfit : OemFits cfg pt oem) : ValidH20 cfg (gen20Header active pt oem sid seq p) :=
  ⟨rfl, hfit⟩

/-- The header GEN20 builds is the one R233 states, and H20_PACK emits its bytes. -/
theorem h20Pack_headerOver {s : State} (hfit : OemFits s.cfg pt oem) :
    ReportsOk (.h20Pack (headerOver active pt oem sid seq p)) s
      (.bytes (header20Bytes (gen20Header active pt oem sid seq p))) :=
  reportsOk_of_packOr rfl ((checksH20_none_iff s.cfg _).2 (validH20_gen20Header hfit))

theorem gen20Header_payloadLen_toNat (h : p.length ≤ 65535) :
    (gen20Header active pt oem sid seq p).payloadLen.toNat = p.length :=
  (BitVec.toNat_ofNat ..).trans (Nat.mod_eq_of_lt (Nat.lt_succ_of_le h))

end

/-- The 12 bytes of R242. -/
theorem header20Bytes_unprotected {pt : UInt6} {raw : Bytes} (h : raw.length ≤ 65535) :
    header20Bytes (gen20Header false pt none 0#32 0#32 raw) =
      [0x06#8, pt.setWidth 8] ++ List.replicate 8 0x00#8 ++ bytesOfNat 2 raw.length := by
  have hflags : flagsByte false false pt = pt.setWidth 8 := by revert pt; decide
  have hzero : bytesOfNat 4 0 ++ bytesOfNat 4 0 = List.replicate 8 0x00#8 := by decide
  have hlen := gen20Header_payloadLen_toNat (active := false) (pt := pt) (oem := none) (sid := 0#32) (seq := 0#32) h
  rw [header20Bytes_w20 rfl rfl, ← flagsByte_eq, hlen, ← hzero, gen20Header, hflags, ← List.append_assoc]
  rfl

/-! ### GEN20 by its state -/

section
variable {raw p : Bytes} {pt : UInt6} {oem : Option Oem} {sid seq : U32} {s : State}

theorem exec_gen20_of_fits (hlive : s.ctx.live = true) (hfit : OemFits s.cfg pt oem) :
    exec (.gen20 raw pt oem) s = .next (
      if s.ctx.v20State = .active then s.gen20Active raw pt oem
      else s.gen20Sealed false pt oem 0#32 0#32 raw []) := by
  rw [exec, execGen20, State.gen20, (oemShape_none_iff s.cfg pt oem).2 hfit]
  exact congrArg Host.Outcome.next (State.needCtx_of_live hlive)

/-- Before Active, the raw payload goes on the wire (R242). -/
theorem exec_gen20_before_active (hlive : s.ctx.live = true) (hstate : s.ctx.v20State ≠ .active)
    (hfit : OemFits s.cfg pt oem) :
    exec (.gen20 raw pt oem) s = .next (s.gen20Sealed false pt oem 0#32 0#32 raw []) := by
  rw [exec_gen20_of_fits hlive hfit, if_neg hstate]

/-- In Active, what ENC answers goes on the wire (R233). -/
theorem exec_gen20_active (hlive : s.ctx.live = true) (hstate : s.ctx.v20State = .active)
    (hsid : s.ctx.v20Sid = some sid) (hseq : s.ctx.v20Seq = some seq) (hfit : OemFits s.cfg pt oem)
    (henc : s.encAnswer = .ok p) :
    exec (.gen20 raw pt oem) s =
      .next (s.afterEnc.gen20Sealed true pt oem sid seq p [.enc raw s.ctx.v20Keys (.ok p)]) := by
  rw [exec_gen20_of_fits hlive hfit, if_pos hstate, State.gen20Active, hsid, hseq, henc]
  rfl

end

/-! ### GEN20 once its wire payload is known -/

section
variable {active : Bool} {pt : UInt6} {oem : Option Oem} {sid seq : U32} {p : Bytes} {trace : List Event} {s : State}

theorem State.gen20Sealed_of_long (h : 65535 < p.length) :
    s.gen20Sealed active pt oem sid seq p trace = s.raiseError (.payloadTooLong .limit65535) trace := if_pos h

theorem State.gen20Sealed_of_no_trailer (h : p.length ≤ 65535) (hx : ¬ (active = true ∧ sid ≠ 0#32)) :
    s.gen20Sealed active pt oem sid seq p trace =
      s.finish (.bytes (header20Bytes (gen20Header active pt oem sid seq p) ++ p)) trace :=
  (if_neg (Nat.not_lt.2 h)).trans (if_neg (mt (trailerExpected_iff _).1 hx))

theorem State.gen20Sealed_of_trailer (h : p.length ≤ 65535) (hx : active = true ∧ sid ≠ 0#32) :
    s.gen20Sealed active pt oem sid seq p trace =
      s.afterTrlgen.gen20WithTrailer (header20Bytes (gen20Header active pt oem sid seq p)) p s.trlgenAnswer trace :=
  (if_neg (Nat.not_lt.2 h)).trans (if_pos ((trailerExpected_iff _).2 hx))

end

/-- How a trailer TRLGEN returned is taken (R234). -/
theorem State.gen20WithTrailer_ok (hb p : Bytes) (t : Trl) (trace : List Event) (s : State) :
    s.gen20WithTrailer hb p (.ok t) trace = { s with report := some {
      ended := if ValidTrl t ∧ t.pad.length = padSize (hb.length + p.length)
        then .ok (.bytes (hb ++ p ++ trailerBytes t)) else .err (.collaboratorFailure .trlgen .badResult),
      trace := trace ++ [.trlgen hb p (.ok t)] } } := by
  rw [State.gen20WithTrailer]
  by_cases h : ValidTrl t ∧ t.pad.length = padSize (hb.length + p.length)
  · rw [if_pos ((trailerAccepted_iff t hb p).2 h), if_pos h]; rfl
  · rw [if_neg (mt (trailerAccepted_iff t hb p).1 h), if_neg h]; rfl

theorem trailerBytes_eq (t : Trl) : trailerBytes t = t.pad ++ [t.padLen, t.nextHeader] ++ t.authCode := by
  rw [trailerBytes, List.append_assoc t.pad, List.singleton_append]

theorem trailerBytes_length (t : Trl) : (trailerBytes t).length = t.pad.length + 2 + t.authCode.length := by
  rw [trailerBytes_eq, List.length_append, List.length_append, List.length_cons, List.length_singleton]

/-! ### The statements -/

/-- Settles O31: the raw payload goes on the wire under a header with both flags clear, which announces no trailer. -/
theorem gen20UnprotectedBeforeActive : Obligations.Gen20UnprotectedBeforeActive := by
  intro raw pt oem s hlive hstate hfit
  have he := exec_gen20_before_active (raw := raw) hlive hstate hfit
  split
  · next hlen =>
    rw [State.gen20Sealed_of_no_trailer hlen (fun hx => Bool.false_ne_true hx.1)] at he
    refine ⟨_, h20Pack_headerOver hfit, he, fun hpt => ?_⟩
    obtain ⟨hoem, -⟩ := hfit
    obtain rfl : oem = none := Option.not_isSome_iff_eq_none.1 (mt hoem.1 hpt)
    exact header20Bytes_unprotected hlen
  · next hlen =>
    rw [State.gen20Sealed_of_long (Nat.not_le.1 hlen)] at he
    exact he

/-- Settles O32: in Active ENC's payload goes on the wire, and the nonzero session ID announces a trailer. What ENC and
TRLGEN answer is the ports' (log entry 2). -/
theorem gen20ProtectsInActive : Obligations.Gen20ProtectsInActive := by
  intro raw p pt oem sid seq s t hlive hstate hsid hseq hne hfit henc hlen htrl
  refine ⟨_, _, h20Pack_headerOver hfit, ?_, rfl⟩
  rw [exec_gen20_active hlive hstate hsid hseq hfit henc, State.gen20Sealed_of_trailer hlen ⟨rfl, hne⟩, htrl,
    State.gen20WithTrailer_ok, trailerBytes_eq]
  rfl

/-- Settles O33: session ID 0 announces no trailer. What ENC answers is the port's (log entry 2). -/
theorem gen20NoTrailerForSessionZero : Obligations.Gen20NoTrailerForSessionZero := by
  intro raw p pt oem seq s hlive hstate hsid hseq hfit henc hlen
  refine ⟨_, h20Pack_headerOver hfit, ?_⟩
  rw [exec_gen20_active hlive hstate hsid hseq hfit henc,
    State.gen20Sealed_of_no_trailer hlen fun hx => hx.2 rfl]
  rfl

end Sys2Proof.Machine
end

section
/-! SUPPORT. BUILD and PARSE (46_generator.md R238, R239): what each does on a live context of either generation, and
the statements about their dispatch. -/

namespace Sys2Proof.Machine

/-! ### The dispatch on PROTO -/

section
variable {raw frame : Bytes} {pt : UInt6} {oem : Option Oem} {s : State}

theorem exec_build_v15 (hlive : s.ctx.live = true) (hproto : s.ctx.proto = .v15) :
    exec (.build raw pt oem) s = exec (.gen15 raw) s :=
  (exec_of_live rfl hlive).trans (by rw [hproto]; rfl)

theorem exec_build_v20 (hlive : s.ctx.live = true) (hproto : s.ctx.proto = .v20) :
    exec (.build raw pt oem) s = exec (.gen20 raw pt oem) s :=
  (exec_of_live rfl hlive).trans (by rw [hproto]; rfl)

theorem exec_parse_v15 (hlive : s.ctx.live = true) (hproto : s.ctx.proto = .v15) :
    exec (.parse frame) s = .next (s.settle ((readFrame15 frame).map fun f => .parsed15 f.payload f)) :=
  (exec_of_live rfl hlive).trans (by rw [hproto])

theorem exec_parse_v20 (hlive : s.ctx.live = true) (hproto : s.ctx.proto = .v20) :
    exec (.parse frame) s = .next (s.settle ((readFrame20 s.cfg frame).map fun f => .parsed20 f.payload f)) :=
  (exec_of_live rfl hlive).trans (by rw [hproto])

end

/-- Two operations that settle one reading: it succeeds, and the second reports its value, or it fails, and both fail
alike. -/
theorem reports_of_shared_reading {α : Type} {i j : Instr} {s : State} {x : Except Error α} {f g : α → Output} {a : α}
    {p : Prop} [Decidable p] (hi : exec i s = .next (s.settle (x.map f))) (hj : exec j s = .next (s.settle (x.map g)))
    (hx : ∀ b, x = .ok b ↔ p ∧ a = b) (hshort : ShortOnly x) :
    if p then ReportsOk j s (g a)
    else ∃ tag, ReportsErr i s (.bufferTooShort tag) ∧ ReportsErr j s (.bufferTooShort tag) := by
  split
  · next hp => exact reportsOk_of_settle hj ((hx a).2 ⟨hp, rfl⟩) rfl
  · next hp =>
    cases hread : x with
    | ok b => exact absurd ((hx b).1 hread).1 hp
    | error e =>
      obtain ⟨tag, rfl⟩ := hshort e hread
      exact ⟨tag, reportsErr_of_settle hi hread, reportsErr_of_settle hj hread⟩

/-! ### The statements -/

/-- Settles O35: on a live context PROTO decides, and the two frames without protection are those of GEN15 and GEN20. -/
theorem buildDispatchesOnProto : Obligations.BuildDispatchesOnProto := by
  intro raw pt oem s
  split
  · next hl => exact reportsErr_of_dead rfl hl
  · next hl =>
    have hlive := eq_true_of_ne_false hl
    split
    · next hproto =>
      have he := exec_build_v15 (raw := raw) (pt := pt) (oem := oem) hlive hproto
      refine ⟨he, fun hinactive hlen => he.trans ?_⟩
      exact gen15_reportsOk_unauthenticated hlive hlen (not_authenticated15_iff.2 (.inl hinactive))
    · next hproto =>
      have he := exec_build_v20 (raw := raw) (pt := pt) (oem := oem) hlive hproto
      refine ⟨he, fun hstate hfit hlen => ?_⟩
      have hgen := gen20UnprotectedBeforeActive raw pt oem s hlive hstate hfit
      rw [if_pos hlen] at hgen
      obtain ⟨hb, hpack, hok, -⟩ := hgen
      exact ⟨hb, hpack, he.trans hok⟩

/-- Settles O36: PARSE and the unpack of PROTO's generation settle one reading, which succeeds iff the frame is whole. -/
theorem parseDispatchesOnProto : Obligations.ParseDispatchesOnProto := by
  intro frame s
  split
  · next hl => exact reportsErr_of_dead rfl hl
  · next hl =>
    have hlive := eq_true_of_ne_false hl
    split
    · next hproto =>
      exact reports_of_shared_reading (f := .s15) (g := fun f => .parsed15 f.payload f) rfl
        (exec_parse_v15 hlive hproto) (fun _ => readFrame15_eq_ok_iff)
        (readFrame15_shortOnly frame)
    · next hproto =>
      exact reports_of_shared_reading (f := .s20) (g := fun f => .parsed20 f.payload f) rfl
        (exec_parse_v20 hlive hproto) (fun _ => readFrame20_eq_ok_iff)
        (readFrame20_shortOnly s.cfg frame)

end Sys2Proof.Machine
end

section
/-! SUPPORT. The frames GEN15, GEN20 and BUILD hand over (46_generator.md R231 to R237, R241): every way a generator
succeeds, said once with the frame as a value, the calls made and the state they leave; that these values are
well-formed, so that their bytes read back; and from these the statements about successful frames. -/

namespace Sys2Proof.Machine

/-! ### What the host is handed (R21) -/

/-- The operation that ended in `t` succeeded with the bytes of a frame and a trace. -/
def State.Handed (t : State) (frame : Bytes) (trace : List Event) : Prop :=
  t.report = some { ended := .ok (.bytes frame), trace := trace }

section
variable {t u : State} {frame b : Bytes} {trace trace' : List Event}

theorem State.Handed.of_finish (hok : t.Handed frame trace) (he : t = u.finish (.bytes b) trace') :
    frame = b ∧ trace = trace' := by
  subst he
  simpa [State.Handed, eq_comm] using hok

theorem State.Handed.not_error (hok : t.Handed frame trace) {e : Error} : t ≠ u.raiseError e trace' := by
  rintro rfl
  simp [State.Handed] at hok

theorem State.Handed.not_refused (hok : t.Handed frame trace) {r : Reason} : t ≠ u.refuse r := by
  rintro rfl
  simp [State.Handed] at hok

end

/-! ### Every way GEN15 succeeds (R231) -/

/-- How GEN15 succeeds over `raw` in `s`: the frame, the calls made and the state they leave. -/
inductive Gen15Builds (raw : Bytes) (s : State) : S15 → List Event → State → Prop
  | unauthenticated (hlen : raw.length ≤ 255) (hauth : ¬ Authenticated15 s.ctx) :
    Gen15Builds raw s
      { hdr := { authType := 0x00#8, seq := 0#32, sid := 0#32, authCode := none,
                 payloadLen := BitVec.ofNat 8 raw.length },
        payload := raw } [] s
  | authenticated {sid seq : U32} {code : Bytes} (hlen : raw.length ≤ 255) (hauth : Authenticated15 s.ctx)
    (hsid : s.ctx.v15Sid = some sid) (hseq : s.ctx.v15Seq = some seq) (hcode : code.length = 16) :
    Gen15Builds raw s
      { hdr := { authType := s.ctx.v15AuthType, seq := seq, sid := sid, authCode := some code,
                 payloadLen := BitVec.ofNat 8 raw.length },
        payload := raw } [.ac raw (.ok code)] s.afterAc

theorem exec_gen15_handed {raw frame : Bytes} {trace : List Event} {s t : State} (h : exec (.gen15 raw) s = .next t)
    (hok : t.Handed frame trace) :
    ∃ f u, Gen15Builds raw s f trace u ∧ frame = frame15Bytes f ∧ t = u.finish (.bytes frame) trace := by
  obtain rfl : s.gen15 raw = t := Host.Outcome.next.inj h
  obtain ⟨-, he⟩ | ⟨-, -, he⟩ | ⟨-, hlen, hauth, he⟩ | ⟨-, hlen, hauth, hregs⟩ := State.gen15_cases raw s
  · exact absurd he hok.not_error
  · exact absurd he hok.not_error
  · obtain ⟨rfl, rfl⟩ := hok.of_finish he
    exact ⟨_, _, .unauthenticated hlen hauth, rfl, he⟩
  obtain ⟨-, he⟩ | ⟨_, -, -, he⟩ | ⟨sid, seq, hsid, hseq, he⟩ := hregs
  · exact absurd he hok.not_error
  · exact absurd he hok.not_error
  obtain ⟨-, ha⟩ | ⟨_, -, -, ha⟩ | ⟨code, -, hcode, ha⟩ := State.gen15WithAnswer_cases raw sid seq s.acAnswer s.afterAc
  · exact absurd (he.trans ha) hok.not_error
  · exact absurd (he.trans ha) hok.not_error
  · obtain ⟨rfl, rfl⟩ := hok.of_finish (he.trans ha)
    exact ⟨_, _, .authenticated hlen hauth hsid hseq hcode, rfl, he.trans ha⟩

namespace Gen15Builds

variable {raw : Bytes} {s u : State} {f : S15} {trace : List Event} (h : Gen15Builds raw s f trace u)
include h

theorem ctx : u.ctx = s.ctx := by cases h <;> rfl

theorem payload : f.payload = raw := by cases h <;> rfl

theorem raw_length_le : raw.length ≤ 255 := by cases h <;> assumption

theorem payloadLen : f.hdr.payloadLen.toNat = raw.length := by
  have hmod : (BitVec.ofNat 8 raw.length).toNat = raw.length :=
    (BitVec.toNat_ofNat ..).trans (Nat.mod_eq_of_lt (Nat.lt_succ_of_le h.raw_length_le))
  cases h <;> exact hmod

theorem valid : ValidS15 f := by
  refine ⟨?_, h.payloadLen.trans (congrArg List.length h.payload.symm)⟩
  cases h with
  | unauthenticated => exact ⟨iff_of_true rfl rfl, nofun⟩
  | authenticated _ hauth _ _ hcode => exact ⟨iff_of_false nofun hauth.2, by simpa using hcode⟩

/-- The header has the size of the layout the session selects (R71). -/
theorem hsize15_eq : hsize15 f.hdr = if Authenticated15 s.ctx then 26 else 10 := by
  cases h with
  | unauthenticated _ hauth => rw [if_neg hauth]; rfl
  | authenticated _ hauth => rw [if_pos hauth]; exact if_neg hauth.2

theorem hdr_of_authenticated (hauth : Authenticated15 s.ctx) :
    f.hdr.authType = s.ctx.v15AuthType ∧ some f.hdr.sid = s.ctx.v15Sid ∧ some f.hdr.seq = s.ctx.v15Seq ∧
      ∃ code, f.hdr.authCode = some code ∧ trace = [.ac raw (.ok code)] := by
  cases h with
  | unauthenticated _ hnot => exact absurd hauth hnot
  | authenticated _ _ hsid hseq => exact ⟨rfl, hsid.symm, hseq.symm, _, rfl, rfl⟩

theorem hdr_of_not_authenticated (hauth : ¬ Authenticated15 s.ctx) :
    f.hdr = { authType := 0x00#8, seq := 0#32, sid := 0#32, authCode := none, payloadLen := f.hdr.payloadLen } := by
  cases h with
  | unauthenticated => rfl
  | authenticated _ hyes => exact absurd hyes hauth

end Gen15Builds

/-! ### Every way GEN20 succeeds (R233, R234, R242) -/

/-- How GEN20 succeeds over `raw` in `s`: the frame, the calls made and the state they leave. -/
inductive Gen20Builds (raw : Bytes) (pt : UInt6) (oem : Option Oem) (s : State) : S20 → List Event → State → Prop
  | unprotected (hlen : raw.length ≤ 65535) (hstate : s.ctx.v20State ≠ .active) :
    Gen20Builds raw pt oem s
      { hdr := gen20Header false pt oem 0#32 0#32 raw, payload := raw, trailer := none } [] s
  | noTrailer {seq : U32} {p : Bytes} (hlen : p.length ≤ 65535) (hstate : s.ctx.v20State = .active)
    (hsid : s.ctx.v20Sid = some 0#32) (hseq : s.ctx.v20Seq = some seq) :
    Gen20Builds raw pt oem s
      { hdr := gen20Header true pt oem 0#32 seq p, payload := p, trailer := none }
      [.enc raw s.ctx.v20Keys (.ok p)] s.afterEnc
  | trailer {sid seq : U32} {p : Bytes} {t : Trl} (hlen : p.length ≤ 65535) (hstate : s.ctx.v20State = .active)
    (hsid : s.ctx.v20Sid = some sid) (hseq : s.ctx.v20Seq = some seq) (hne : sid ≠ 0#32) (hvalid : ValidTrl t)
    (hpad : t.pad.length = padSize ((header20Bytes (gen20Header true pt oem sid seq p)).length + p.length)) :
    Gen20Builds raw pt oem s
      { hdr := gen20Header true pt oem sid seq p, payload := p, trailer := some t }
      [.enc raw s.ctx.v20Keys (.ok p), .trlgen (header20Bytes (gen20Header true pt oem sid seq p)) p (.ok t)]
      s.afterEnc.afterTrlgen

theorem State.gen20Active_handed {raw frame : Bytes} {pt : UInt6} {oem : Option Oem} {trace : List Event} {s : State}
    (hstate : s.ctx.v20State = .active) (hok : (s.gen20Active raw pt oem).Handed frame trace) :
    ∃ f u, Gen20Builds raw pt oem s f trace u ∧ frame = frame20Bytes f ∧
      s.gen20Active raw pt oem = u.finish (.bytes frame) trace := by
  obtain ⟨-, he⟩ | ⟨_, -, -, he⟩ | ⟨_, _, -, -, -, he⟩ | ⟨sid, seq, p, hsid, hseq, -, he⟩ :=
    State.gen20Active_cases raw pt oem s
  · exact absurd he hok.not_error
  · exact absurd he hok.not_error
  · exact absurd he hok.not_error
  obtain ⟨-, hs⟩ | ⟨hlen, hzero, hs⟩ | ⟨hlen, ⟨-, hne⟩, hs⟩ :=
    State.gen20Sealed_cases true pt oem sid seq p [.enc raw s.ctx.v20Keys (.ok p)] s.afterEnc
  · exact absurd (he.trans hs) hok.not_error
  · obtain ⟨rfl, rfl⟩ := hok.of_finish (he.trans hs)
    obtain rfl : sid = 0#32 := not_not.1 fun hne => hzero ⟨rfl, hne⟩
    exact ⟨_, _, .noTrailer hlen hstate hsid hseq, (List.append_nil _).symm, he.trans hs⟩
  obtain ⟨-, ht⟩ | ⟨_, -, -, ht⟩ | ⟨t, -, hvalid, hpad, ht⟩ := State.gen20WithTrailer_cases
    (header20Bytes (gen20Header true pt oem sid seq p)) p s.afterEnc.trlgenAnswer
    [.enc raw s.ctx.v20Keys (.ok p)] s.afterEnc.afterTrlgen
  · exact absurd (he.trans (hs.trans ht)) hok.not_error
  · exact absurd (he.trans (hs.trans ht)) hok.not_error
  · obtain ⟨rfl, rfl⟩ := hok.of_finish (he.trans (hs.trans ht))
    exact ⟨_, _, .trailer hlen hstate hsid hseq hne hvalid hpad, rfl, he.trans (hs.trans ht)⟩

theorem exec_gen20_handed {raw frame : Bytes} {pt : UInt6} {oem : Option Oem} {trace : List Event} {s t : State}
    (h : exec (.gen20 raw pt oem) s = .next t) (hok : t.Handed frame trace) :
    OemFits s.cfg pt oem ∧ ∃ f u, Gen20Builds raw pt oem s f trace u ∧ frame = frame20Bytes f ∧
      t = u.finish (.bytes frame) trace := by
  obtain rfl : s.gen20 raw pt oem = t := Host.Outcome.next.inj h
  obtain ⟨_, -, -, he⟩ | ⟨-, -, he⟩ | ⟨hfit, -, hstate, he⟩ | ⟨hfit, -, hstate, he⟩ := State.gen20_cases raw pt oem s
  · exact absurd he hok.not_refused
  · exact absurd he hok.not_error
  · rw [he] at hok ⊢
    exact ⟨hfit, State.gen20Active_handed hstate hok⟩
  obtain ⟨-, hs⟩ | ⟨hlen, -, hs⟩ | ⟨-, ⟨hactive, -⟩, -⟩ := State.gen20Sealed_cases false pt oem 0#32 0#32 raw [] s
  · exact absurd (he.trans hs) hok.not_error
  · obtain ⟨rfl, rfl⟩ := hok.of_finish (he.trans hs)
    exact ⟨hfit, _, _, .unprotected hlen hstate, (List.append_nil _).symm, he.trans hs⟩
  · cases hactive

namespace Gen20Builds

variable {raw : Bytes} {pt : UInt6} {oem : Option Oem} {s u : State} {f : S20} {trace : List Event}
  (h : Gen20Builds raw pt oem s f trace u)
include h

theorem ctx : u.ctx = s.ctx := by cases h <;> rfl

theorem cfg : u.cfg = s.cfg := by cases h <;> rfl

theorem hdr_pt : f.hdr.pt = pt := by cases h <;> rfl

theorem hdr_oem : f.hdr.oem = oem := by cases h <;> rfl

theorem payload_length_le : f.payload.length ≤ 65535 := by cases h <;> assumption

theorem payloadLen : f.hdr.payloadLen.toNat = f.payload.length := by
  have hlen := h.payload_length_le
  cases h <;> exact gen20Header_payloadLen_toNat hlen

theorem trailer_isSome_iff : f.trailer.isSome ↔ s.ctx.v20State = .active ∧ s.ctx.v20Sid ≠ some 0#32 := by
  cases h with
  | unprotected _ hstate => exact iff_of_false nofun fun hx => hstate hx.1
  | noTrailer _ _ hsid => exact iff_of_false nofun fun hx => hx.2 hsid
  | trailer _ hstate hsid _ hne => exact iff_of_true rfl ⟨hstate, by rwa [hsid, ne_eq, Option.some_inj]⟩

theorem hdr_of_active (hstate : s.ctx.v20State = .active) :
    f.hdr.enc = true ∧ f.hdr.auth = true ∧ some f.hdr.sid = s.ctx.v20Sid ∧ some f.hdr.seq = s.ctx.v20Seq ∧
      trace.head? = some (.enc raw s.ctx.v20Keys (.ok f.payload)) := by
  cases h with
  | unprotected _ hnot => exact absurd hstate hnot
  | noTrailer _ _ hsid hseq => exact ⟨rfl, rfl, hsid.symm, hseq.symm, rfl⟩
  | trailer _ _ hsid hseq => exact ⟨rfl, rfl, hsid.symm, hseq.symm, rfl⟩

theorem hdr_of_not_active (hstate : s.ctx.v20State ≠ .active) :
    f.hdr.enc = false ∧ f.hdr.auth = false ∧ f.hdr.sid = 0#32 ∧ f.hdr.seq = 0#32 ∧ f.payload = raw := by
  cases h with
  | unprotected => exact ⟨rfl, rfl, rfl, rfl, rfl⟩
  | noTrailer _ hactive => exact absurd hactive hstate
  | trailer _ hactive => exact absurd hactive hstate

/-- The trailer is TRLGEN's answer to the last call (R234). -/
theorem trlgen_call {t : Trl} (ht : f.trailer = some t) :
    ∃ hb, trace.getLast? = some (.trlgen hb f.payload (.ok t)) := by
  cases h with
  | unprotected => cases ht
  | noTrailer => cases ht
  | trailer => cases ht; exact ⟨_, rfl⟩

theorem hdr_valid (hfit : OemFits s.cfg pt oem) : ValidH20 s.cfg f.hdr := by
  cases h <;> exact validH20_gen20Header hfit

theorem valid (hfit : OemFits s.cfg pt oem) : ValidS20 s.cfg f := by
  have hhdr := h.hdr_valid hfit
  have hlen := header20Bytes_length hhdr.2.1
  refine ⟨hhdr, h.payloadLen, ?_⟩
  cases h with
  | unprotected => exact ⟨⟨iff_of_false nofun nofun, nofun⟩, nofun⟩
  | noTrailer => exact ⟨⟨iff_of_false nofun fun hx => hx.2 rfl, nofun⟩, nofun⟩
  | trailer _ _ _ _ hne hvalid hpad =>
    rw [hlen, hsize20_eq] at hpad
    exact ⟨⟨iff_of_true rfl ⟨rfl, hne⟩, by simpa using hpad⟩, by simpa using hvalid⟩

end Gen20Builds

/-! ### Where a field of a frame stands (R70, R72) -/

theorem frame15Bytes_at {f : S15} (hv : ValidS15 f) : Whole15 (frame15Bytes f) ∧ s15At (frame15Bytes f) = f :=
  readFrame15_eq_ok_iff.1 (by simpa using readFrame15_frame15Bytes hv [])

theorem frame20Bytes_at {cfg : Config} {f : S20} (hv : ValidS20 cfg f) :
    Whole20 cfg (frame20Bytes f) ∧ s20At cfg (frame20Bytes f) = f :=
  readFrame20_eq_ok_iff.1 (readFrame20_frame20Bytes hv)

theorem u32At_frame15Bytes {f : S15} (hv : ValidS15 f) :
    u32At (frame15Bytes f) 1 = f.hdr.seq ∧ u32At (frame15Bytes f) 5 = f.hdr.sid :=
  have hhdr := congrArg S15.hdr (frame15Bytes_at hv).2
  ⟨congrArg H15.seq hhdr, congrArg H15.sid hhdr⟩

theorem size20At_frame20Bytes {cfg : Config} {f : S20} (hv : ValidS20 cfg f) :
    size20At cfg (frame20Bytes f) = hsize20 cfg f.hdr :=
  congrArg (fun g : S20 => hsize20 cfg g.hdr) (frame20Bytes_at hv).2

theorem u32At_frame20Bytes {cfg : Config} {f : S20} (hv : ValidS20 cfg f) :
    u32At (frame20Bytes f) (hsize20 cfg f.hdr - 10) = f.hdr.sid ∧
      u32At (frame20Bytes f) (hsize20 cfg f.hdr - 6) = f.hdr.seq := by
  have hhdr := congrArg S20.hdr (frame20Bytes_at hv).2
  rw [← size20At_frame20Bytes hv]
  exact ⟨congrArg H20.sid hhdr, congrArg H20.seq hhdr⟩

/-! ### What BUILD hands over (R238) -/

section
variable {raw frame : Bytes} {pt : UInt6} {oem : Option Oem} {trace : List Event} {s t : State}

theorem live_of_build_handed (h : exec (.build raw pt oem) s = .next t) (hok : t.Handed frame trace) :
    s.ctx.live = true := by
  by_contra hl
  have hdead : exec (.build raw pt oem) s = .next (s.raiseError .noContext []) :=
    reportsErr_of_dead rfl (eq_false_of_ne_true hl)
  exact hok.not_error (Host.Outcome.next.inj (h.symm.trans hdead))

theorem exec_gen20_of_build_handed (hproto : s.ctx.proto = .v20) (h : exec (.build raw pt oem) s = .next t)
    (hok : t.Handed frame trace) : exec (.gen20 raw pt oem) s = .next t :=
  (exec_build_v20 (live_of_build_handed h hok) hproto).symm.trans h

end

/-! ### The statements -/

/-- Settles O37: the frame a generator builds is the bytes of a well-formed value, which PARSE reads back in the state
the calls left. -/
theorem buildThenParse : Obligations.BuildThenParse := by
  intro raw frame pt oem trace s t h hok
  have hlive := live_of_build_handed h hok
  cases hproto : s.ctx.proto with
  | v15 =>
    rw [exec_build_v15 hlive hproto] at h
    obtain ⟨f, u, hb, rfl, rfl⟩ := exec_gen15_handed h hok
    obtain ⟨hdr, payload⟩ := f
    obtain rfl : payload = raw := hb.payload
    have hread : readFrame15 _ = .ok _ := readFrame15_eq_ok_iff.2 (frame15Bytes_at hb.valid)
    refine ⟨hdr, ?_, hb.payloadLen, ?_⟩
    · refine reportsOk_of_settle (f := fun f => .parsed15 f.payload f) (exec_parse_v15 ?_ ?_) hread rfl
      · rw [State.finish_ctx, hb.ctx, hlive]
      · rw [State.finish_ctx, hb.ctx, hproto]
    · split
      · next hauth => exact hb.hdr_of_authenticated hauth
      · next hauth => exact hb.hdr_of_not_authenticated hauth
  | v20 =>
    obtain ⟨hfit, f, u, hb, rfl, rfl⟩ := exec_gen20_handed (exec_gen20_of_build_handed hproto h hok) hok
    have hread := readFrame20_frame20Bytes (hb.valid hfit)
    have ⟨h6, _, _⟩ := hb.hdr_valid hfit
    refine ⟨f.hdr, f.payload, f.trailer, ?_, h6, hb.hdr_pt, hb.hdr_oem, hb.payloadLen, hb.trailer_isSome_iff, ?_⟩
    · refine reportsOk_of_settle (f := fun f => .parsed20 f.payload f) (exec_parse_v20 ?_ ?_) ?_ rfl
      · rw [State.finish_ctx, hb.ctx, hlive]
      · rw [State.finish_ctx, hb.ctx, hproto]
      · rw [State.finish_cfg, hb.cfg]; exact hread
    · split
      · next hstate => exact hb.hdr_of_active hstate
      · next hstate => exact hb.hdr_of_not_active hstate

/-- Settles O38: a frame is as long as its header, payload and trailer, and a trailer's pad is that of header and
payload. -/
theorem frameLengths : Obligations.FrameLengths := by
  intro raw frame pt oem trace s t hok
  refine ⟨fun h => ?_, fun h => ?_⟩
  · obtain ⟨f, u, hb, rfl, -⟩ := exec_gen15_handed h hok
    have hraw := hb.raw_length_le
    have hlen : (frame15Bytes f).length = (if Authenticated15 s.ctx then 26 else 10) + raw.length := by
      rw [frame15Bytes, List.length_append, header15Bytes_length hb.valid.1, hb.hsize15_eq, hb.payload]
    refine ⟨hlen, ?_⟩
    rw [hlen]
    split <;> omega
  · obtain ⟨hfit, f, u, hb, rfl, -⟩ := exec_gen20_handed h hok
    have hv := hb.valid hfit
    obtain ⟨hhdr, -, ⟨-, hpad⟩, htrl⟩ := hv
    have hlen := frame20Bytes_length hhdr
    rw [hsize20_eq, hb.hdr_pt] at hlen
    rw [hb.hdr_pt] at hpad
    refine ⟨f.payload.length, hb.payload_length_le, ?_, ?_⟩
    · split
      · next hstate =>
        obtain ⟨-, -, -, -, henc⟩ := hb.hdr_of_active hstate
        exact ⟨_, henc, rfl⟩
      · next hstate =>
        obtain ⟨-, -, -, -, hraw⟩ := hb.hdr_of_not_active hstate
        rw [hraw]
    · split
      · next hx =>
        obtain ⟨tr, htr⟩ := Option.isSome_iff_exists.1 (hb.trailer_isSome_iff.2 hx)
        obtain ⟨call, hcall⟩ := hb.trlgen_call htr
        have ⟨_, _, _, _, hcode⟩ := htrl tr htr
        refine ⟨call, _, tr, hcall, hcode, ?_⟩
        rw [hlen, htr, ← hpad tr htr, trailerPart, trailerBytes_length]
        omega
      · next hx =>
        have htr := Option.not_isSome_iff_eq_none.1 (mt hb.trailer_isSome_iff.1 hx)
        rw [hlen, htr]
        rfl

/-- Settles O39: the header is built from the registers, and a frame holds each header field at its offset. -/
theorem sessionValuesEmbedded : Obligations.SessionValuesEmbedded := by
  intro raw frame pt oem trace s t hok
  refine ⟨fun h hactive htype => ?_, fun h hstate => ?_⟩
  · obtain ⟨f, u, hb, rfl, rfl⟩ := exec_gen15_handed h hok
    obtain ⟨hseqAt, hsidAt⟩ := u32At_frame15Bytes hb.valid
    obtain ⟨-, hsid, hseq, -⟩ := hb.hdr_of_authenticated ⟨hactive, htype⟩
    rw [hseqAt, hsidAt]
    exact ⟨hseq, hsid, hb.ctx⟩
  · have hgen : exec (.gen20 raw pt oem) s = .next t :=
      h.elim id fun hbuild => exec_gen20_of_build_handed hbuild.1 hbuild.2 hok
    obtain ⟨hfit, f, u, hb, rfl, rfl⟩ := exec_gen20_handed hgen hok
    obtain ⟨hsidAt, hseqAt⟩ := u32At_frame20Bytes (hb.valid hfit)
    obtain ⟨-, -, hsid, hseq, -⟩ := hb.hdr_of_active hstate
    have hsize := hsize20_eq s.cfg f.hdr
    rw [hb.hdr_pt] at hsize
    have h10 : (if pt = s.cfg.ptOem then 8 else 2) = hsize20 s.cfg f.hdr - 10 := by rw [hsize]; split <;> rfl
    have h6 : (if pt = s.cfg.ptOem then 12 else 6) = hsize20 s.cfg f.hdr - 6 := by rw [hsize]; split <;> rfl
    rw [h10, h6, hsidAt, hseqAt]
    exact ⟨hsid, hseq, hb.ctx⟩

end Sys2Proof.Machine
end

section
/-! SUPPORT. The order in which GEN20 reports (60_exceptions.md R268): which shape of its `oem` operand breaks first, and
the statement. -/

namespace Sys2Proof.Machine

/-- The two shapes of R233, each by its breach, in their order. -/
theorem oemShape_eq_ite (cfg : Config) (pt : UInt6) (oem : Option Oem) :
    oemShape cfg pt oem =
      if ¬ (oem.isSome ↔ pt = cfg.ptOem) then some .oem
      else if ∃ o ∈ oem, 2 ^ 24 ≤ o.iana.toNat then some .iana
      else none := by
  have hpresence : oem.isSome ≠ (pt == cfg.ptOem) ↔ ¬ (oem.isSome ↔ pt = cfg.ptOem) := by
    rw [ne_eq, Bool.eq_iff_iff, beq_iff_eq]
  have hiana : (oem.all fun o => o.iana.extractLsb' 24 8 == 0#8) = true ↔ ¬ ∃ o ∈ oem, 2 ^ 24 ≤ o.iana.toNat := by
    cases oem <;> simp [topByte_eq_zero_iff]
  simp only [oemShape, hpresence, hiana, ite_not]

theorem gen20_refuses_of_shape {raw : Bytes} {pt : UInt6} {oem : Option Oem} {s : State} {name : ShapeName}
    (h : oemShape s.cfg pt oem = some name) : Refuses (.gen20 raw pt oem) s (.operandShape name) := by
  rw [Refuses, exec, execGen20, State.gen20, h]; rfl

/-- Settles O34: the shapes come first, then the context, then in Active the ways `State.gen20Active_cases` lists. What
ENC and TRLGEN answer is the ports' (log entry 2). -/
theorem gen20ReportingOrder : Obligations.Gen20ReportingOrder := by
  intro raw pt oem s
  have hshape := oemShape_eq_ite s.cfg pt oem
  split
  · next h => exact gen20_refuses_of_shape (hshape.trans (if_pos h))
  next hpresence =>
  rw [if_neg hpresence] at hshape
  split
  · next h => exact gen20_refuses_of_shape (hshape.trans (if_pos h))
  next hiana =>
  rw [if_neg hiana] at hshape
  split
  · next hdead => rw [ReportsErr, exec, execGen20, State.gen20, hshape, State.needCtx_of_dead hdead]; rfl
  next hlive =>
  have hfit := (oemShape_none_iff s.cfg pt oem).1 hshape
  have he := exec_gen20_of_fits (raw := raw) (eq_true_of_ne_false hlive) hfit
  split
  · next hstate =>
    rw [if_pos hstate, State.gen20Active] at he
    split
    · next hsid => rw [hsid] at he; exact he
    · next hsid hseq => rw [hsid, hseq] at he; exact he
    · next hsid hseq henc => rw [hsid, hseq, henc] at he; exact he
    · next sid seq p hsid hseq henc =>
      have he := exec_gen20_active (raw := raw) (eq_true_of_ne_false hlive) hstate hsid hseq hfit henc
      refine ⟨fun hlong => ?_, fun hlen hne htrl => ⟨_, h20Pack_headerOver hfit, ?_⟩⟩
      · rw [he, State.gen20Sealed_of_long hlong]; rfl
      · rw [he, State.gen20Sealed_of_trailer hlen ⟨rfl, hne⟩, htrl]; rfl
  · next hstate =>
    intro hlong
    rw [if_neg hstate, State.gen20Sealed_of_long hlong] at he
    exact he

end Sys2Proof.Machine
end

section
/-! SUPPORT. Operands outside their types (60_exceptions.md R272): each operand reader against the typed operands it
reads, the opcode map against the operand lists of R90, and the statement. -/

namespace Sys2Proof.Machine

open Laws.AssignedRequest (assigned)

/-! ### A reader is refused OperandRange of the first operand outside its type -/

/-- What R272 asks of a reading of `fields`: OperandRange of the first that does not fit its type, or a value. -/
def ReadsTyped {α : Type} (fields : List TypedOperand) (x : Except Reject α) : Prop :=
  match firstOutOfType fields with
  | some name => x = .error (.refuse (.operandRange name))
  | none => ∃ a, x = .ok a

theorem readsTyped_nil {α : Type} (a : α) : ReadsTyped [] (.ok a) := ⟨a, rfl⟩

theorem firstOutOfType_append (fs gs : List TypedOperand) :
    firstOutOfType (fs ++ gs) = (firstOutOfType fs).or (firstOutOfType gs) := by
  simp [firstOutOfType, List.find?_append, Option.map_or]

theorem ReadsTyped.map {α β : Type} {fields : List TypedOperand} {x : Except Reject α} (h : ReadsTyped fields x)
    (f : α → β) : ReadsTyped fields (x.map f) := by
  unfold ReadsTyped at h ⊢
  split at h
  · rw [h]; rfl
  · obtain ⟨a, rfl⟩ := h; exact ⟨f a, rfl⟩

theorem ReadsTyped.bind {α β : Type} {fs gs : List TypedOperand} {x : Except Reject α} {f : α → Except Reject β}
    (h : ReadsTyped fs x) (hf : ∀ a, ReadsTyped gs (f a)) : ReadsTyped (fs ++ gs) (x >>= f) := by
  unfold ReadsTyped at h ⊢
  rw [firstOutOfType_append]
  split at h
  · next name hfs => rw [hfs, h]; rfl
  · next hfs => obtain ⟨a, rfl⟩ := h; rw [hfs, Option.none_or]; exact hf a

/-- A single operand: a value while it fits its width, else OperandRange. -/
theorem readsTyped_singleton {α : Type} {name : OperandName} {w n : Nat} {x : Except Reject α}
    (hfits : n < 2 ^ w → ∃ a, x = .ok a) (hbad : 2 ^ w ≤ n → x = .error (.refuse (.operandRange name))) :
    ReadsTyped [⟨name, w, n⟩] x := by
  unfold ReadsTyped
  by_cases h : 2 ^ w ≤ n
  · simpa [firstOutOfType, h] using hbad h
  · simpa [firstOutOfType, h] using hfits (Nat.not_le.1 h)

theorem asField_readsTyped (w : Nat) (name : OperandName) (n : Nat) : ReadsTyped [⟨name, w, n⟩] (asField w name n) :=
  readsTyped_singleton (fun h => ⟨_, if_pos h⟩) fun h => if_neg (Nat.not_lt.2 h)

theorem asPadCount_readsTyped (n : Nat) : ReadsTyped [⟨.p, 2, n⟩] (asPadCount n) :=
  readsTyped_singleton (fun h => ⟨_, if_pos (Nat.le_of_lt_succ h)⟩) fun h => if_neg (Nat.not_le.2 h)

theorem asBool_readsTyped (name : OperandName) : ∀ n, ReadsTyped [⟨name, 1, n⟩] (asBool name n)
  | 0 | 1 => ⟨_, rfl⟩
  | n + 2 => readsTyped_singleton (fun h => absurd h (by omega)) fun _ => rfl

theorem asProto_readsTyped : ∀ n, ReadsTyped [⟨.proto, 1, n⟩] (asProto n)
  | 0 | 1 => ⟨_, rfl⟩
  | n + 2 => readsTyped_singleton (fun h => absurd h (by omega)) fun _ => rfl

theorem asState_readsTyped : ∀ n, ReadsTyped [⟨.target, 3, n⟩] (asState n)
  | 0 | 1 | 2 | 3 | 4 | 5 | 6 | 7 => ⟨_, rfl⟩
  | n + 8 => readsTyped_singleton (fun h => absurd h (by omega)) fun _ => rfl

theorem asH15_readsTyped (r : RawH15) : ReadsTyped (typedH15 r) (asH15 r) :=
  (asField_readsTyped ..).bind fun _ => (asField_readsTyped ..).bind fun _ => (asField_readsTyped ..).bind fun _ =>
    (asField_readsTyped ..).bind fun _ => readsTyped_nil _

theorem asOem_readsTyped (o : Option RawOem) : ReadsTyped (typedOem o) (asOem o) := by
  cases o with
  | none => exact readsTyped_nil _
  | some r => exact (asField_readsTyped ..).bind fun _ => (asField_readsTyped ..).bind fun _ => readsTyped_nil _

theorem asH20_readsTyped (r : RawH20) : ReadsTyped (typedH20 r) (asH20 r) := by
  rw [typedH20, List.append_assoc]
  exact (asField_readsTyped ..).bind fun _ => (asBool_readsTyped ..).bind fun _ => (asBool_readsTyped ..).bind fun _ =>
    (asField_readsTyped ..).bind fun _ => (asOem_readsTyped _).bind fun _ => (asField_readsTyped ..).bind fun _ =>
    (asField_readsTyped ..).bind fun _ => (asField_readsTyped ..).bind fun _ => readsTyped_nil _

theorem asTrl_readsTyped (r : RawTrl) : ReadsTyped (typedTrl r) (asTrl r) :=
  (asField_readsTyped ..).bind fun _ => (asField_readsTyped ..).bind fun _ => readsTyped_nil _

theorem asTrailer_readsTyped (o : Option RawTrl) : ReadsTyped (typedTrailer o) (asTrailer o) := by
  cases o with
  | none => exact readsTyped_nil _
  | some r => exact (asTrl_readsTyped r).map some

theorem asS15_readsTyped (r : RawS15) : ReadsTyped (typedH15 r.hdr) (asS15 r) := (asH15_readsTyped r.hdr).map _

theorem asS20_readsTyped (r : RawS20) : ReadsTyped (typedH20 r.hdr ++ typedTrailer r.trailer) (asS20 r) :=
  (asH20_readsTyped r.hdr).bind fun _ => (asTrailer_readsTyped r.trailer).map _

/-! ### The opcode map and the operand lists (R90, R91) -/

theorem typedOperands_of_not_assigned {tag : Byte} (h : assigned tag.toNat = false) (ops : List Operand) :
    typedOperands tag ops = none := by
  rw [reserved_iff] at h
  unfold typedOperands
  generalize tag.toNat = n at h ⊢
  obtain rfl | ⟨hlo, hhi⟩ | ⟨hlo, hhi⟩ | ⟨hlo, hhi⟩ | ⟨hlo, hhi⟩ | hlo := h
  · rfl
  iterate 4 (interval_cases n <;> rfl)
  · obtain ⟨m, rfl⟩ := Nat.exists_eq_add_of_le' hlo; rfl

/-- An operand list of the operation's length and kinds is read as its typed operands say. The cases are the arms of the
opcode map in its order, each with the one operand list it has typed operands for. -/
theorem decodeOp_readsTyped {tag : Byte} {ops : List Operand} {fields : List TypedOperand}
    (h : typedOperands tag ops = some fields) : ReadsTyped fields (decodeOp tag ops) := by
  have ha : assigned tag.toNat = true :=
    Bool.eq_true_of_not_eq_false fun hn => nomatch (typedOperands_of_not_assigned hn ops).symm.trans h
  unfold decodeOp
  generalize hn : tag.toNat = n at ha ⊢
  obtain rfl : BitVec.ofNat 8 n = tag := by rw [← hn, BitVec.ofNat_toNat, BitVec.setWidth_eq]
  clear hn
  split
  -- Family 40: three PUTs of an integer; PUT_BYTES and the GETs, whose operands have no type to check.
  iterate 3 match ops, h with | [.bytes _, .num _, .num _], rfl => exact (asField_readsTyped ..).map _
  · match ops, h with | [.bytes _, .num _, .bytes _], rfl => exact readsTyped_nil _
  iterate 3 match ops, h with | [.bytes _, .num _], rfl => exact readsTyped_nil _
  iterate 2 match ops, h with | [.bytes _, .num _, .num _], rfl => exact readsTyped_nil _
  -- Families 41 and 42: a PACK of a record, an UNPACK of bytes.
  · match ops, h with | [.h15 _], rfl => exact (asH15_readsTyped _).map _
  · match ops, h with | [.bytes _], rfl => exact readsTyped_nil _
  · match ops, h with | [.h20 _], rfl => exact (asH20_readsTyped _).map _
  · match ops, h with | [.bytes _], rfl => exact readsTyped_nil _
  -- Family 43: PAD_SIZE, TRL_PACK, and TRL_UNPACK with its pad count.
  · match ops, h with | [.num _], rfl => exact readsTyped_nil _
  · match ops, h with | [.trl _], rfl => exact (asTrl_readsTyped _).map _
  · match ops, h with | [.bytes _, .num _, .num _], rfl => exact (asPadCount_readsTyped _).map _
  -- Family 44.
  · match ops, h with | [.s15 _], rfl => exact (asS15_readsTyped _).map _
  · match ops, h with | [.bytes _], rfl => exact readsTyped_nil _
  · match ops, h with | [.s20 _], rfl => exact (asS20_readsTyped _).map _
  · match ops, h with | [.bytes _], rfl => exact readsTyped_nil _
  -- Family 45: CTX_CREATE, CTX_DESTROY and CTX_READ, the register writes, the state machine.
  · match ops, h with | [.num _], rfl => exact (asProto_readsTyped _).map _
  iterate 2 match ops, h with | [], rfl => exact readsTyped_nil _
  · match ops, h with
    | [.num _, .num _], rfl =>
      exact (asBool_readsTyped ..).bind fun _ => (asField_readsTyped ..).bind fun _ => readsTyped_nil _
  iterate 4 match ops, h with | [.num _], rfl => exact (asField_readsTyped ..).map _
  · match ops, h with | [.num _], rfl => exact readsTyped_nil _
  · match ops, h with | [.num _], rfl => exact (asState_readsTyped _).map _
  · match ops, h with | [], rfl => exact readsTyped_nil _
  -- Family 46: GEN15, then GEN20 and BUILD, which take a payload type and an OEM record, and PARSE.
  · match ops, h with | [.bytes _], rfl => exact readsTyped_nil _
  iterate 2
    match ops, h with
    | [.bytes raw, .num _, .oem _], rfl =>
      exact (asField_readsTyped ..).bind fun _ => (asOem_readsTyped _).map _
  · match ops, h with | [.bytes _], rfl => exact readsTyped_nil _
  -- Past the last arm the tag is not assigned.
  · clear h; grind [assigned]

/-- Where the operand list is not of an operation's length and kinds, the tag is reserved or the list is refused. -/
theorem decodeOp_of_untyped {tag : Byte} {ops : List Operand} (h : typedOperands tag ops = none) :
    decodeOp tag ops = .error (.refuse (.reservedOp tag)) ∨ decodeOp tag ops = wrongOperands := by
  unfold typedOperands at h
  unfold decodeOp decPutU8 decPutU16le decPutU32le decPutBytes decGetU8 decGetU16le decGetU32le decGetBytes
    decGetBytesUpto decH15Pack decH15Unpack decH20Pack decH20Unpack decPadSize decTrlPack decTrlUnpack decS15Pack
    decS15Unpack decS20Pack decS20Unpack decCtxCreate decCtxDestroy decCtxRead decCtxSetV15 decCtxSetV15Sid
    decCtxSetV15Seq decCtxSetV20Sid decCtxSetV20Seq decCtxSetV20Keys decSmAdvance decSmReset decGen15 decGen20
    decBuild decParse
  generalize tag.toNat = n at h ⊢
  split
  case h_36 => exact .inl rfl
  all_goals
    split
    case h_2 => exact .inr rfl
    case h_1 => cases h

/-- Settles O49: the typed operands of a request are what its readers check, in their order (log entry 10), and any other
operand list is refused as a list (log entry 9). -/
theorem operandsOutOfRangeRefused : Obligations.OperandsOutOfRangeRefused := by
  intro cfg tag ops
  split
  · next h => exact decodeOp_readsTyped h
  · next h => exact (decodeOp_of_untyped h).resolve_left

end Sys2Proof.Machine
end

section
/-! SUPPORT. Errors, refusals and the step (60_exceptions.md R260 to R270): every way any instruction ends, said once,
with what it leaves alone, and the statements that follow from it. -/

namespace Sys2Proof.Machine

/-! ### What an operation leaves alone -/

/-- The parameter, the host's program and the mark are in `u` as in `s`. -/
structure KeepsHost (s u : State) : Prop where
  cfg : u.cfg = s.cfg
  pending : u.pending = s.pending
  pos : u.pos = s.pos
  refusalMark : u.refusalMark = s.refusalMark

theorem KeepsHost.refl (s : State) : KeepsHost s s := ⟨rfl, rfl, rfl, rfl⟩

theorem KeepsHost.trlgen {s u : State} (h : KeepsHost s u) : KeepsHost s u.afterTrlgen :=
  ⟨h.cfg, h.pending, h.pos, h.refusalMark⟩

/-- `u` is `s` after the collaborator calls of `trace` and nothing else; without a call it is `s` itself. -/
structure AfterCalls (s : State) (trace : List Event) (u : State) : Prop where
  host : KeepsHost s u
  ctx : u.ctx = s.ctx
  eq_of_nil : trace = [] → u = s

theorem AfterCalls.nil (s : State) : AfterCalls s [] s := ⟨.refl s, rfl, fun _ => rfl⟩

theorem AfterCalls.ac (s : State) (e : Event) : AfterCalls s [e] s.afterAc := ⟨⟨rfl, rfl, rfl, rfl⟩, rfl, nofun⟩

theorem AfterCalls.enc (s : State) (e : Event) : AfterCalls s [e] s.afterEnc := ⟨⟨rfl, rfl, rfl, rfl⟩, rfl, nofun⟩

theorem AfterCalls.trlgen {s u : State} {trace : List Event} (h : AfterCalls s trace u) (e : Event) :
    AfterCalls s (trace ++ [e]) u.afterTrlgen :=
  ⟨h.host.trlgen, h.ctx, fun hnil => absurd hnil (List.append_ne_nil_of_right_ne_nil trace (List.cons_ne_nil e []))⟩

/-! ### Every way an operation ends (R21, R266, R270) -/

/-- How `i` ends in `s`: it succeeds and writes at most registers and ports; it raises an error its row of R260 allows,
with no more than the calls of the trace made; or it is refused. -/
inductive OpEnd (i : Instr) (s : State) : State → Prop
  | ok {u : State} {out : Output} {trace : List Event} (h : KeepsHost s u) : OpEnd i s (u.finish out trace)
  | err {u : State} {e : Error} {trace : List Event} (h : AfterCalls s trace u) (hrow : ErrorRow i e) :
    OpEnd i s (u.raiseError e trace)
  | refused (r : Reason) : OpEnd i s (s.refuse r)

section
variable {i : Instr} {s : State}

theorem OpEnd.writeCtx (c : Context) : OpEnd i s (s.writeCtx c) := .ok (u := { s with ctx := c }) ⟨rfl, rfl, rfl, rfl⟩

theorem OpEnd.packOr (broken : Option Check) (b : Bytes) : OpEnd i s (s.packOr broken b) := by
  cases broken with
  | none => exact .ok (.refl s)
  | some c => exact .refused _

theorem OpEnd.needCtx {goOn : State} (hi : i.needsContext = true) (h : OpEnd i s goOn) :
    OpEnd i s (s.needCtx goOn) := by
  obtain ⟨-, he⟩ | ⟨-, he⟩ := State.needCtx_cases s goOn
  · rw [he]; exact h
  · rw [he]; exact .err (.nil s) ⟨rfl, hi⟩

/-- An operation that reads or writes a buffer and settles raises BufferTooShort or nothing. -/
theorem OpEnd.of_pureEnd {t : State} (hi : i.accessesBuffer = true) (h : PureEnd s t) : OpEnd i s t := by
  cases h with
  | @settled x hx =>
    obtain ⟨-, hshort⟩ := hx
    cases x with
    | ok out => exact .ok (.refl s)
    | error e =>
      obtain ⟨tag, rfl⟩ := hshort e rfl
      exact .err (.nil s) ⟨rfl, hi⟩
  | refused r => exact .refused r

/-! ### The generators -/

theorem OpEnd.gen15 (hctx : i.needsContext = true) (hcall : i.mayCall = true) (raw : Bytes) :
    OpEnd i s (s.gen15 raw) := by
  obtain ⟨-, h⟩ | ⟨-, -, h⟩ | ⟨-, -, -, h⟩ | ⟨-, -, -, hauth⟩ := State.gen15_cases raw s
  · rw [h]; exact .err (.nil s) ⟨rfl, hctx⟩
  · rw [h]; exact .err (.nil s) ⟨rfl, hcall⟩
  · rw [h]; exact .ok (.refl s)
  obtain ⟨-, h⟩ | ⟨_, -, -, h⟩ | ⟨sid, seq, -, -, h⟩ := hauth
  · rw [h]; exact .err (.nil s) ⟨rfl, hcall⟩
  · rw [h]; exact .err (.nil s) ⟨rfl, hcall⟩
  rw [h]
  obtain ⟨-, h⟩ | ⟨_, -, -, h⟩ | ⟨_, -, -, h⟩ :=
    State.gen15WithAnswer_cases raw sid seq s.acAnswer s.afterAc
  · rw [h]; exact .err (.ac s _) ⟨rfl, hcall⟩
  · rw [h]; exact .err (.ac s _) ⟨rfl, hcall⟩
  · rw [h]; exact .ok ⟨rfl, rfl, rfl, rfl⟩

theorem OpEnd.gen20Sealed {u : State} {trace : List Event} (hcall : i.mayCall = true) (hu : AfterCalls s trace u)
    (active : Bool) (pt : UInt6) (oem : Option Oem) (sid seq : U32) (p : Bytes) :
    OpEnd i s (u.gen20Sealed active pt oem sid seq p trace) := by
  obtain ⟨-, h⟩ | ⟨-, -, h⟩ | ⟨-, -, h⟩ := State.gen20Sealed_cases active pt oem sid seq p trace u
  · rw [h]; exact .err hu ⟨rfl, hcall⟩
  · rw [h]; exact .ok hu.host
  rw [h]
  obtain ⟨-, h⟩ | ⟨_, -, -, h⟩ | ⟨_, -, -, -, h⟩ := State.gen20WithTrailer_cases
    (header20Bytes (gen20Header active pt oem sid seq p)) p u.trlgenAnswer trace u.afterTrlgen
  · rw [h]; exact .err (hu.trlgen _) ⟨rfl, hcall⟩
  · rw [h]; exact .err (hu.trlgen _) ⟨rfl, hcall⟩
  · rw [h]; exact .ok hu.host.trlgen

theorem OpEnd.gen20 (hctx : i.needsContext = true) (hcall : i.mayCall = true) (raw : Bytes) (pt : UInt6)
    (oem : Option Oem) : OpEnd i s (s.gen20 raw pt oem) := by
  obtain ⟨_, -, -, h⟩ | ⟨-, -, h⟩ | ⟨-, -, -, h⟩ | ⟨-, -, -, h⟩ := State.gen20_cases raw pt oem s
  · rw [h]; exact .refused _
  · rw [h]; exact .err (.nil s) ⟨rfl, hctx⟩
  · rw [h]
    obtain ⟨-, h⟩ | ⟨_, -, -, h⟩ | ⟨_, _, -, -, -, h⟩ | ⟨sid, seq, p, -, -, -, h⟩ :=
      State.gen20Active_cases raw pt oem s
    · rw [h]; exact .err (.nil s) ⟨rfl, hcall⟩
    · rw [h]; exact .err (.nil s) ⟨rfl, hcall⟩
    · rw [h]; exact .err (.enc s _) ⟨rfl, hcall⟩
    · rw [h]; exact .gen20Sealed hcall (.enc s _) ..
  · rw [h]; exact .gen20Sealed hcall (.nil s) ..

end

/-! ### Every instruction -/

theorem exec_opEnd_of_accessesBuffer {i : Instr} (hpure : i.isPure = true) (hbuf : i.accessesBuffer = true)
    (s : State) : ∃ t, exec i s = .next t ∧ OpEnd i s t := by
  obtain ⟨t, he, hend⟩ := exec_isPure hpure s
  exact ⟨t, he, .of_pureEnd hbuf hend⟩

/-- Every instruction answers a next state, and ends in one of the three ways. -/
theorem exec_opEnd (i : Instr) (s : State) : ∃ t, exec i s = .next t ∧ OpEnd i s t := by
  cases i with
  | h15Pack _ | h20Pack _ | trlPack _ | s15Pack _ | s20Pack _ => exact ⟨_, rfl, .packOr ..⟩
  | padSize l => exact ⟨_, rfl, .ok (.refl s)⟩
  | ctxCreate proto => exact ⟨_, rfl, .writeCtx _⟩
  | ctxDestroy => exact ⟨_, rfl, .needCtx rfl (.ok ⟨rfl, rfl, rfl, rfl⟩)⟩
  | ctxRead => exact ⟨_, rfl, .needCtx rfl (.ok (.refl s))⟩
  | ctxSetV15Sid _ | ctxSetV15Seq _ | ctxSetV20Sid _ | ctxSetV20Seq _ | ctxSetV20Keys _ | smReset =>
    exact ⟨_, rfl, .needCtx rfl (.writeCtx _)⟩
  | ctxSetV15 _ _ | smAdvance _ =>
    refine ⟨_, rfl, .needCtx rfl ?_⟩
    split
    · exact .err (.nil s) ⟨rfl, rfl⟩
    · exact .writeCtx _
  | gen15 raw => exact ⟨_, rfl, .gen15 rfl rfl raw⟩
  | gen20 raw pt oem => exact ⟨_, rfl, .gen20 rfl rfl raw pt oem⟩
  | build raw pt oem =>
    refine ⟨_, rfl, .needCtx rfl ?_⟩
    split
    · exact .gen15 rfl rfl raw
    · exact .gen20 rfl rfl raw pt oem
  | parse frame =>
    obtain ⟨_, he, ⟨-, rfl⟩ | hend⟩ := exec_parse frame s
    · exact ⟨_, he, .err (.nil s) ⟨rfl, rfl⟩⟩
    · exact ⟨_, he, .of_pureEnd rfl hend⟩
  | _ => exact exec_opEnd_of_accessesBuffer rfl rfl s

theorem opEnd_of_exec {i : Instr} {s t : State} (h : exec i s = .next t) : OpEnd i s t := by
  obtain ⟨_, he, hend⟩ := exec_opEnd i s
  cases he.symm.trans h
  exact hend

/-! ### What goes on after any outcome (R8, R269, R270) -/

/-- After `t` the block takes the host's next operation: nothing of the host's program is lost, the parameter stands, a
mark once set stays, and a report was made. -/
structure GoesOn (s t : State) : Prop where
  cfg : t.cfg = s.cfg
  refusalMark : s.refusalMark = true → t.refusalMark = true
  pending : t.pending = s.pending
  pos : t.pos = s.pos
  report : t.report.isSome

theorem OpEnd.goesOn {i : Instr} {s t : State} (h : OpEnd i s t) : GoesOn s t := by
  cases h with
  | ok h => exact ⟨h.cfg, h.refusalMark.trans, h.pending, h.pos, rfl⟩
  | err h => exact ⟨h.host.cfg, h.host.refusalMark.trans, h.host.pending, h.host.pos, rfl⟩
  | refused r => exact ⟨rfl, fun _ => rfl, rfl, rfl, rfl⟩

theorem State.reject_goesOn (s : State) (x : Reject) : GoesOn s (s.reject x) := by
  cases x with
  | refuse r => exact ⟨rfl, fun _ => rfl, rfl, rfl, rfl⟩
  | raise e => exact ⟨rfl, id, rfl, rfl, rfl⟩

/-- A step with a request takes it, and goes on from there. -/
theorem step_goesOn {s : State} {r : Request} {rest : List Request} (hp : s.pending = r :: rest) :
    ∃ t, step s = .next t ∧ GoesOn (s.issue rest) t := by
  cases hd : decode s.cfg r with
  | ok i =>
    obtain ⟨t, he, hend⟩ := exec_opEnd i (s.issue rest)
    exact ⟨t, (step_of_instr hp hd).trans he, hend.goesOn⟩
  | error x => exact ⟨_, step_of_reject hp hd, State.reject_goesOn _ x⟩

/-! ### The statements -/

/-- Settles O45: each of these operations starts with the context check, but GEN20 with the shape of its `oem`
operand. -/
theorem noContextComesFirst : Obligations.NoContextComesFirst := by
  intro i s hdead hpure hcreate
  cases i with
  | ctxCreate proto => exact absurd rfl (hcreate proto)
  | gen20 raw pt oem =>
    obtain ⟨name, -, hmisfit, h⟩ | ⟨-, -, h⟩ | ⟨-, hlive, -⟩ | ⟨-, hlive, -⟩ := State.gen20_cases raw pt oem s
    · exact .inr ⟨raw, pt, oem, name, rfl, hmisfit, congrArg Host.Outcome.next h⟩
    · exact .inl (congrArg Host.Outcome.next h)
    · cases hdead.symm.trans hlive
    · cases hdead.symm.trans hlive
  | ctxDestroy | ctxRead | ctxSetV15 | ctxSetV15Sid | ctxSetV15Seq | ctxSetV20Sid | ctxSetV20Seq | ctxSetV20Keys
  | smAdvance | smReset | gen15 | build | parse => exact .inl (reportsErr_of_dead rfl hdead)
  | _ => cases hpure

/-- Settles O46: of the three ways to end, the one that reports an error. A wire row reads its bytes as the unpack of its
format does (log entry 7). -/
theorem errorsLeaveContext : Obligations.ErrorsLeaveContext := by
  intro i s t e trace h hreport
  cases opEnd_of_exec h with
  | ok => cases hreport
  | refused => cases hreport
  | err hcalls hrow =>
    cases hreport
    obtain ⟨⟨hcfg, hpending, hpos, hmark⟩, hctx, hnil⟩ := hcalls
    exact ⟨hrow, hctx, hcfg, hpending, hpos, hmark,
      fun htrace => ⟨congrArg (·.collab) (hnil htrace), congrArg (·.draws) (hnil htrace)⟩⟩

/-- Settles O47: of the three ways to end, the one that reports a refusal, which is a next state by the model's choice
(log entry 8). -/
theorem refusalsLeaveContext : Obligations.RefusalsLeaveContext := by
  intro i s t r trace h hreport
  cases opEnd_of_exec h with
  | ok => cases hreport
  | err => cases hreport
  | refused => cases hreport; exact ⟨rfl, h⟩

/-- Settles O55: every instruction goes on, and so does a request without one; that a refusal and an error are next
states is the model's choice (log entry 8). -/
theorem everyStepGoesOn : Obligations.EveryStepGoesOn := by
  intro s
  cases hp : s.pending with
  | nil => exact ⟨s, step_of_no_request hp, rfl, id, nofun⟩
  | cons r rest =>
    obtain ⟨t, he, hgoes⟩ := step_goesOn hp
    refine ⟨t, he, hgoes.cfg, hgoes.refusalMark, ?_⟩
    rintro _ _ ⟨⟩
    exact ⟨hgoes.pending, hgoes.pos, hgoes.report⟩

/-- Settles O54: the cases of a step in which there is no request, or the request does not decode. The idle step and the
wire requests are the model's choices (log entries 5 and 7). -/
theorem stepRejectsByName : Obligations.StepRejectsByName := fun _ _ _ =>
  ⟨step_of_no_request, fun _ hp hd => step_of_reject hp hd, fun _ hp hd => step_of_reject hp hd⟩

end Sys2Proof.Machine
end

section
/-! SUPPORT. Power-on and the operations that need no context (70_reset_and_hazards.md R291, R292): what the operations of
families 40 to 44 and the wire rows make of another register file, what holds at power-on, and the statements. -/

namespace Sys2Proof.Machine

/-! ### The register file replaced under an operation that needs no context (R59, R291) -/

theorem State.settle_withCtx (c : Context) (s : State) (x : Except Error Output) :
    (s.withCtx c).settle x = (s.settle x).withCtx c := by
  cases x with
  | ok out => rfl
  | error e => rfl

theorem State.packOr_withCtx (c : Context) (s : State) (broken : Option Check) (b : Bytes) :
    (s.withCtx c).packOr broken b = (s.packOr broken b).withCtx c := by
  cases broken with
  | none => rfl
  | some check => rfl

/-- The operations of families 40 to 44 and the wire rows read no register: with the register file replaced, each ends
in the same state but for that file. -/
theorem exec_withCtx_of_isPure {i : Instr} (hi : i.isPure = true) (c : Context) (s : State) :
    ∃ t, exec i s = .next t ∧ exec i (s.withCtx c) = .next (t.withCtx c) := by
  cases i with
  | putU8 | putU16le | putU32le | putBytes | getU8 | getU16le | getU32le | getBytes | getBytesUpto
  | h15Unpack | h20Unpack | s15Unpack | s20Unpack | wireW15n | wireW15a | wireW20 | wireW20o =>
    exact ⟨_, rfl, congrArg Host.Outcome.next (State.settle_withCtx ..)⟩
  | h15Pack | h20Pack | trlPack | s15Pack | s20Pack =>
    exact ⟨_, rfl, congrArg Host.Outcome.next (State.packOr_withCtx ..)⟩
  | padSize l => exact ⟨_, rfl, rfl⟩
  | trlUnpack buf off p =>
    by_cases hp : p ≤ 3
    · exact ⟨_, if_pos hp, (if_pos hp).trans (congrArg Host.Outcome.next (State.settle_withCtx ..))⟩
    · exact ⟨_, if_neg hp, if_neg hp⟩
  | wireWtrl pad _ _ _ =>
    by_cases hp : pad.length ≤ 3
    · exact ⟨_, if_pos hp, (if_pos hp).trans (congrArg Host.Outcome.next (State.settle_withCtx ..))⟩
    · exact ⟨_, if_neg hp, if_neg hp⟩
  | _ => cases hi

/-! ### A machine that has reported nothing -/

theorem State.sound_of_report_none {s : State} (h : s.report = none) : s.Sound := fun _ hr => by
  cases h.symm.trans hr

/-! ### The statements -/

/-- Settles O44: such an operation ends in the same state but for the registers, and so with the same report. -/
theorem pureOperationsIgnoreContext : Obligations.PureOperationsIgnoreContext := by
  intro i s c hi
  obtain ⟨t, hs, hc⟩ := exec_withCtx_of_isPure hi c s
  calc reportOf (exec i (s.withCtx c))
    _ = (t.withCtx c).report := congrArg reportOf hc
    _ = t.report := State.withCtx_report c t
    _ = reportOf (exec i s) := (congrArg reportOf hs).symm

/-- Settles O57: at power-on no operation has ended, so nothing was handed to the host. -/
theorem resetIsSound : Obligations.ResetIsSound := State.sound_of_report_none rfl

/-- Settles O58: the fields of the power-on state are given by its definition, and with no context live CTX_READ fails its
context check. The default of PT_OEM is the spec's general-knowledge value (log entry 1). -/
theorem powerOnState : Obligations.PowerOnState := ⟨rfl, rfl, rfl, rfl, rfl, reportsErr_of_dead rfl rfl⟩

end Sys2Proof.Machine
end
